-- ==== Sys2Proof/Word.lean ====
section
/-! DEFINITION. The data types of the block: everything it moves is one byte (20_memory.md R50), bits are numbered
from 0 at the least significant bit and every value is unsigned (00_scope.md R14). -/
namespace Sys2Proof

/-- 00_scope.md R14: "A byte is 8 bits, `0x00`..`0xFF`." -/
abbrev Byte := BitVec 8

/-- A control word of the control port, 30_encoding.md R64. -/
abbrev CtlWord := BitVec 24

/-- A line-buffer index, 00_scope.md R11 ("11 bits wide"). -/
abbrev LineIndex := BitVec 11

end Sys2Proof
end

