-- ==== Sys2Proof/Config.lean ====
section
/-! DEFINITION. What is fixed for the life of a block instance (00_scope.md section 5, rules R9 to R13) and the one
free value, the readiness of the serial sink (rules R6, R42, R156). -/
namespace Sys2Proof

/-- `MODE` (R12): the transmit variant an instance runs. -/
inductive TxMode
  /-- `0`: "overlaps formatting/sending with pixel capture". -/
  | buffered
  /-- `1`: "formats+sends inline after each pixel". -/
  | direct
deriving DecidableEq, Repr

/-- The parameters of an instance. They are arguments of the model (92_eei_decisions.md D29), read-only and not
changed by reset (10_state.md R20). -/
structure Cfg where
  /-- `PIXFMT`, 4 bits (R9). -/
  pixfmt : BitVec 4
  /-- `WIDTH`, 10 bits (R10). -/
  width : BitVec 10
  /-- `HEIGHT`, 10 bits (R10). -/
  height : BitVec 10
  /-- `MODE` (R12). -/
  mode : TxMode
  /-- `SYNC_STAGES`, OPEN, at least 2 (10_state.md R41). -/
  syncStages : Nat
  /-- `BAUD`: "any; no rule of this spec reads it". -/
  baud : Nat
deriving DecidableEq, Repr

/-- `PIXFMT = 0x01` = RGB565 (R9). -/
def Config.rgb565 : BitVec 4 := 0x1#4

/-- `PIXFMT = 0x02` = grayscale (R9). -/
def Config.grayscale : BitVec 4 := 0x2#4

/-- `MAX_TEXT = 254`, the longest debug text the block frames (R13). -/
def Config.maxText : Nat := 254

/-- The source build: 160 by 120 at 115200 baud, BUFFERED ("the primary path"). The format is "either
(build-time)": grayscale here, and two synchroniser stages, the fewest allowed. DESIGN CHOICE, log entry 6. -/
def Config.sourceBuild : Cfg :=
  { pixfmt := Config.grayscale, width := 160#10, height := 120#10, mode := .buffered
    syncStages := 2, baud := 115200 }

/-- FREE VALUE: the readiness drawn at the n-th send attempt of a run for which the environment has listed no draw
(R6: "a draw of the environment at each send attempt"). It has no body: nothing can be proved of its values.
Log entry 2. -/
opaque Config.freeReady : Nat → Bool

end Sys2Proof
end

