-- ==== Sys2Proof/Syntax.lean ====
section
/-! DEFINITION. The operations of the block (one constructor per row of spec/opcode_table.json) and the encoded forms
in which they are presented (30_encoding.md R63: five encoding spaces, and the internal steps, which have none). -/
namespace Sys2Proof

/-- One constructor per row of the opcode table. -/
inductive Instr
  /-- CTRL24 `0x000000` (42_scheduler.md R110). -/
  | nop
  /-- CTRL24 `0x100000` (41_framer.md R95). -/
  | newframe
  /-- CTRL24 `0x2` `0` `a` `b`: text-buffer index `a`, data byte `b` (R98). -/
  | textwr (a b : Byte)
  /-- CTRL24 `0x3000nn`: debug command of `n` text bytes (R100). -/
  | debug (n : Byte)
  /-- CTRL24 `0x400000` (R112). -/
  | linestart
  /-- CTRL24 `0x500000` (R115). -/
  | lineend
  /-- CAP8: one captured byte (R113). -/
  | capture (b : Byte)
  /-- STROBE: one scheduler slot (R118). -/
  | slot
  /-- ENCSEL `0b00` applied to the byte `b` (40_byte_encoder.md R84). -/
  | grayscaleFirst (b : Byte)
  /-- ENCSEL `0b01` applied to the byte `b` (R85). -/
  | grayscaleSecond (b : Byte)
  /-- ENCSEL `0b10` applied to the byte `b` (R86). -/
  | rgbHigh (b : Byte)
  /-- ENCSEL `0b11` applied to the byte `b` (R87). -/
  | rgbLow (b : Byte)
  /-- Internal step (R102). -/
  | cmdStep
  /-- Internal step (R124). -/
  | drainStep
  /-- Internal step (R126). -/
  | directStep
  /-- WIRE, command type `0x11`: the new-frame command frame (30_encoding.md R72, R73). -/
  | wireNewframe
  /-- WIRE, command type `0x13`: the debug command frame of the first `n` text bytes (R73, R74). -/
  | wireDebug (n : Byte)
deriving DecidableEq, Repr

/-- The `format` column of the opcode table. -/
inductive Space
  | ctrl24 | cap8 | strobe | encsel | internal | wire
deriving DecidableEq, Repr

/-- An encoded operation: the encoding space that presents it and its bits. -/
inductive Code
  /-- The control port: one 24-bit word (R64). -/
  | ctrl24 (w : CtlWord)
  /-- The capture port: `cap_data` (R68). -/
  | cap8 (b : Byte)
  /-- The slot strobe: `slot` (R69). -/
  | strobe (slot : BitVec 1)
  /-- The encoder's select `ENCSEL[1:0]` (R71) and the byte at its input. -/
  | encsel (sel : BitVec 2) (b : Byte)
  /-- A step of the block sequencer. The spec gives these no encoding (R80): the numbers 0 CMD_STEP, 1 DRAIN_STEP,
  2 DIRECT_STEP are the model's. DESIGN CHOICE, log entry 10. -/
  | internal (k : BitVec 2)
  /-- A wire format: its command-type byte (R75), and for a debug frame the number of text bytes. -/
  | wire (commandType : Byte) (n : Byte)
deriving DecidableEq, Repr

/-- The encoding space a code belongs to. -/
def Code.space : Code → Space
  | .ctrl24 _ => .ctrl24
  | .cap8 _ => .cap8
  | .strobe _ => .strobe
  | .encsel _ _ => .encsel
  | .internal _ => .internal
  | .wire _ _ => .wire

/-- The encoding space the opcode table gives an operation's row. -/
def Instr.space : Instr → Space
  | .nop | .newframe | .textwr _ _ | .debug _ | .linestart | .lineend => .ctrl24
  | .capture _ => .cap8
  | .slot => .strobe
  | .grayscaleFirst _ | .grayscaleSecond _ | .rgbHigh _ | .rgbLow _ => .encsel
  | .cmdStep | .drainStep | .directStep => .internal
  | .wireNewframe | .wireDebug _ => .wire

end Sys2Proof
end

