-- ==== Sys2Proof/WellFormed.lean ====
section
/-! DEFINITION. Which operations the formats can express. The operand ranges of TEXTWR and DEBUG are no part of this:
"an out-of-range value decodes to the operation and then faults" (30_encoding.md R66). -/
namespace Sys2Proof

/-- The one restriction the formats make: a debug frame has at most 254 text bytes (R74). Zero text bytes are well
formed and stand for the absent frame ("absent if the text is empty", 41_framer.md R100). -/
def Instr.wellFormed : Instr → Bool
  | .wireDebug n => decide (n.toNat ≤ Config.maxText)
  | .nop | .newframe | .textwr _ _ | .debug _ | .linestart | .lineend | .capture _ | .slot
  | .grayscaleFirst _ | .grayscaleSecond _ | .rgbHigh _ | .rgbLow _
  | .cmdStep | .drainStep | .directStep | .wireNewframe => true

end Sys2Proof
end

