-- ==== Sys2Proof/Decode.lean ====
section
/-! DEFINITION. Decoding, total on every code of every encoding space, and the encoder written from the same tables
(30_encoding.md R64 to R75). -/
namespace Sys2Proof

/-- Why a code is no operation. -/
inductive DecodeError
  /-- `OPC` is `0x6`..`0xF` (R67). -/
  | reservedOpcode
  /-- `RSV != 0` (R67). -/
  | reservedField
  /-- A field the opcode map shows as 0 is nonzero (R67, 42_scheduler.md R111). -/
  | mustBeZero
  /-- `slot = 0`: no slot is marked in this cycle (R69). -/
  | slotLow
  /-- No internal step has this number (log entry 10). -/
  | noSuchStep
  /-- "Every other value of the command-type byte is never emitted by the block" (R75). -/
  | unknownCommandType
  /-- A new-frame frame takes no operand. -/
  | wireOperand
  /-- A debug frame has at most 254 text bytes (R74). -/
  | textTooLong
deriving DecidableEq, Repr

/-- `OPC`, bits 23:20 (R64). -/
def fieldOpc (w : CtlWord) : BitVec 4 := w.extractLsb' 20 4
/-- `RSV`, bits 19:16 (R64). -/
def fieldRsv (w : CtlWord) : BitVec 4 := w.extractLsb' 16 4
/-- `A`, bits 15:8 (R64). -/
def fieldA (w : CtlWord) : Byte := w.extractLsb' 8 8
/-- `B`, bits 7:0 (R64). -/
def fieldB (w : CtlWord) : Byte := w.extractLsb' 0 8

/-- Why a control word that matches no row of the opcode map is illegal (R67). -/
def illegalCause (w : CtlWord) : DecodeError :=
  if 6 ≤ (fieldOpc w).toNat then .reservedOpcode
  else if fieldRsv w ≠ 0#4 then .reservedField
  else .mustBeZero

/-- The opcode map of `CTRL24` (R65): "decoded by the first row whose `(word & mask) == match`"; operands as R66. -/
def decodeCtl (w : CtlWord) : Except DecodeError Instr :=
  if w &&& 0xFFFFFF#24 = 0x000000#24 then .ok .nop
  else if w &&& 0xFFFFFF#24 = 0x100000#24 then .ok .newframe
  else if w &&& 0xFF0000#24 = 0x200000#24 then .ok (.textwr (fieldA w) (fieldB w))
  else if w &&& 0xFFFF00#24 = 0x300000#24 then .ok (.debug (fieldB w))
  else if w &&& 0xFFFFFF#24 = 0x400000#24 then .ok .linestart
  else if w &&& 0xFFFFFF#24 = 0x500000#24 then .ok .lineend
  else .error (illegalCause w)

/-- The slot strobe (R69). -/
def decodeStrobe (slot : BitVec 1) : Except DecodeError Instr :=
  if slot = 1#1 then .ok .slot else .error .slotLow

/-- The encoder select (R71): all four values are used. -/
def decodeEncsel (sel : BitVec 2) (b : Byte) : Except DecodeError Instr :=
  if sel = 0b00#2 then .ok (.grayscaleFirst b)
  else if sel = 0b01#2 then .ok (.grayscaleSecond b)
  else if sel = 0b10#2 then .ok (.rgbHigh b)
  else .ok (.rgbLow b)

/-- The model's numbers of the internal steps (DESIGN CHOICE, log entry 10). -/
def decodeInternal (k : BitVec 2) : Except DecodeError Instr :=
  if k = 0#2 then .ok .cmdStep
  else if k = 1#2 then .ok .drainStep
  else if k = 2#2 then .ok .directStep
  else .error .noSuchStep

/-- The two command types of the wire (R75). -/
def decodeWire (commandType n : Byte) : Except DecodeError Instr :=
  if commandType = 0x11#8 then (if n = 0#8 then .ok .wireNewframe else .error .wireOperand)
  else if commandType = 0x13#8 then
    (if n.toNat ≤ Config.maxText then .ok (.wireDebug n) else .error .textTooLong)
  else .error .unknownCommandType

/-- Decode one code. -/
def decode : Code → Except DecodeError Instr
  | .ctrl24 w => decodeCtl w
  | .cap8 b => .ok (.capture b)
  | .strobe v => decodeStrobe v
  | .encsel sel b => decodeEncsel sel b
  | .internal k => decodeInternal k
  | .wire ct n => decodeWire ct n

/-- A control word from its four fields (R64). -/
def ctlWord (opc rsv : BitVec 4) (a b : Byte) : CtlWord := opc ++ rsv ++ a ++ b

/-- The code of an operation (R65, R68, R69, R71, R75). -/
def encode : Instr → Code
  | .nop => .ctrl24 (ctlWord 0x0#4 0#4 0#8 0#8)
  | .newframe => .ctrl24 (ctlWord 0x1#4 0#4 0#8 0#8)
  | .textwr a b => .ctrl24 (ctlWord 0x2#4 0#4 a b)
  | .debug n => .ctrl24 (ctlWord 0x3#4 0#4 0#8 n)
  | .linestart => .ctrl24 (ctlWord 0x4#4 0#4 0#8 0#8)
  | .lineend => .ctrl24 (ctlWord 0x5#4 0#4 0#8 0#8)
  | .capture b => .cap8 b
  | .slot => .strobe 1#1
  | .grayscaleFirst b => .encsel 0b00#2 b
  | .grayscaleSecond b => .encsel 0b01#2 b
  | .rgbHigh b => .encsel 0b10#2 b
  | .rgbLow b => .encsel 0b11#2 b
  | .cmdStep => .internal 0#2
  | .drainStep => .internal 1#2
  | .directStep => .internal 2#2
  | .wireNewframe => .wire 0x11#8 0#8
  | .wireDebug n => .wire 0x13#8 n

/-- The pseudo-operation `PRINT` (R81): the TEXTWRs of the text, then `DEBUG n`; `PRINT ""` is `DEBUG 0`. -/
def expandPrint (text : List Byte) : List Instr :=
  text.mapIdx (fun i b => .textwr (BitVec.ofNat 8 i) b) ++ [.debug (BitVec.ofNat 8 text.length)]

/-- The pseudo-operation `LINE` (R81): LINESTART, the captures, LINEEND, "with no SLOT between". -/
def expandLine (bytes : List Byte) : List Instr := .linestart :: bytes.map .capture ++ [.lineend]

/-- Which code a bare number of `nbits` bits stands for. A number does not name its encoding space, and the 8-bit
spaces share numbers, so this reading is the model's (DESIGN CHOICE, log entry 11); the hardware's own decoder is
`decode`. More than 16 bits: a control word. 9 to 16 bits: an ENCSEL or WIRE code with its operand byte above.
8 bits: `0x11`, `0x13` a wire command type, `0x01` the slot strobe, `0x00`, `0x02`, `0x03` an encoder select, every
other number a captured byte. Fewer: 1 bit the strobe, 2 bits an encoder select, 0 bits a captured byte. -/
def codeOfTableWord (nbits w : Nat) : Code :=
  let x := BitVec.ofNat 8 w
  let y := BitVec.ofNat 8 (w / 256)
  if 16 < nbits then .ctrl24 (BitVec.ofNat 24 w)
  else if nbits = 0 then .cap8 x
  else if nbits = 1 then .strobe (BitVec.ofNat 1 w)
  else if x = 0x11#8 ∨ x = 0x13#8 then .wire x y
  else if nbits = 8 ∧ x = 0x01#8 then .strobe 1#1
  else if x.toNat < 4 then .encsel (BitVec.ofNat 2 w) y
  else .cap8 x

/-- The operation the decoder reads from a table word. -/
def decodeTableWord (nbits w : Nat) : Option Instr :=
  (decode (codeOfTableWord nbits w)).toOption

end Sys2Proof
end

