-- ==== Sys2Proof/Machine/State.lean ====
section
/-! DEFINITION. The state of the block as plain data (10_state.md R20 to R44), the environment's moves to come, the
reasons the model stops, and the state right after reset (70_reset_and_hazards.md R165, R166). -/
namespace Sys2Proof.Machine

/-- A memory of bytes: (index, byte) pairs, indices strictly rising. An index that is not listed holds no value: the
contents of LB and TXT after reset are unspecified (R165) and a model "must fault" on such a read (R49).
Log entry 5. -/
abbrev Memory := List Host.Cell

/-- `state` (R22). -/
inductive CtlState
  /-- 0: no line and no command in progress. -/
  | idle
  /-- 1: the framer owns the sink and is emitting a command. -/
  | cmd
  /-- 2: a line is being captured. -/
  | line
  /-- 3: capture of the line has ended; the block sends the rest of the line on its own. -/
  | drain
deriving DecidableEq, Repr

/-- The encoding of `state` on the status port (R22, R23). -/
def CtlState.code : CtlState → BitVec 2
  | .idle => 0#2
  | .cmd => 1#2
  | .line => 2#2
  | .drain => 3#2

/-- `ckind` (R32): `0` = new-frame, `1` = debug. -/
inductive CmdKind
  | newFrame
  | debug
deriving DecidableEq, Repr

/-- The causes of 60_exceptions.md R140. -/
inductive Cause
  | illegal
  | protocol
  | lineOverflow
  | lineShort
  | textIndex
  | textLength
  | textUnwritten
  | directOverrun
deriving DecidableEq, Repr

/-- The codes of R140. -/
def Cause.code : Cause → BitVec 4
  | .illegal => 1#4
  | .protocol => 2#4
  | .lineOverflow => 3#4
  | .lineShort => 4#4
  | .textIndex => 5#4
  | .textLength => 6#4
  | .textUnwritten => 7#4
  | .directOverrun => 8#4

/-- One readiness draw of the environment (00_scope.md R6, R42). -/
inductive Draw
  /-- The sink is ready at this attempt. -/
  | ready
  /-- It is not. -/
  | notReady
  /-- This attempt sees the hardware's own value, `ack_p == req` (R42, R153), "one of the values the draw admits". -/
  | crossing
deriving DecidableEq, Repr

/-- The inputs of one PCLK cycle (60_exceptions.md R149): `some` where the port's valid signal is 1. -/
structure PortSample where
  /-- `ctl_valid`, `ctl_word` (R64). -/
  ctl : Option CtlWord
  /-- `cap_valid`, `cap_data` (R68). -/
  cap : Option Byte
  /-- `slot` (R69). -/
  slot : Bool
deriving DecidableEq, Repr

/-- A PCLK cycle in which nothing is presented. -/
def PortSample.quiet : PortSample := { ctl := none, cap := none, slot := false }

/-- One move of the environment. -/
inductive Event
  /-- One transaction, in any order (00_scope.md R8). -/
  | op (c : Code)
  /-- One PCLK cycle: its events in the order of 70_reset_and_hazards.md R173, then the clock edge. -/
  | cycle (p : PortSample)
  /-- One SCLK cycle; `canAccept` says whether the sink can accept a byte in it (60_exceptions.md R155). -/
  | sclk (canAccept : Bool)
  /-- PCLK is started or stopped (60_exceptions.md R151, R162). -/
  | pclk (runs : Bool)
  /-- The reset inputs: `prst` and the SCLK-domain reset (R165, R166). -/
  | reset (prst srst : Bool)
deriving DecidableEq, Repr

/-- The machine. -/
structure State where
  /-- `PIXFMT`, `WIDTH`, `HEIGHT`, `MODE`, `SYNC_STAGES`, `BAUD` (R20). -/
  cfg : Cfg
  /-- `state` (R22). -/
  state : CtlState
  /-- `fault` (R24): 0, or the code of the cause. -/
  fault : BitVec 4
  /-- `wr` (R27). -/
  wr : LineIndex
  /-- `cursor` (R28). -/
  cursor : LineIndex
  /-- `formatted` (R29). -/
  formatted : Bool
  /-- `highByteNext` (R30). -/
  highByteNext : Bool
  /-- `ckind` (R32). -/
  ckind : CmdKind
  /-- `clen` (R33). -/
  clen : Byte
  /-- `cidx` (R34). -/
  cidx : BitVec 9
  /-- `chk` (R35). -/
  chk : Byte
  /-- `LB` (R37). -/
  lb : Memory
  /-- `TXT` (R38). -/
  txt : Memory
  /-- `TXTV` (R38): bit `i` is the written mark of `TXT[i]`. -/
  txtv : BitVec 254
  /-- `txd` (R40). -/
  txd : Byte
  /-- `req` (R40). -/
  req : Bool
  /-- `ack` (R40). -/
  ack : Bool
  /-- The PCLK-side synchroniser of `ack` (R41), the stage next to `ack` first; its last stage is `ack_p`. -/
  ackSync : List Bool
  /-- The SCLK-side synchroniser of `req` (R41), the stage next to `req` first. -/
  reqSync : List Bool
  /-- The wire output (R18, R43), oldest byte first. -/
  wire : List Byte
  /-- The MODEL's own: the bytes the sink has taken (R155), oldest first. Log entry 14. -/
  taken : List Byte
  /-- The MODEL's own: what an ENCSEL or WIRE row presented by itself yields. Log entries 8, 9. -/
  result : List Byte
  /-- The MODEL's own: the environment's moves to come, next one first. Log entry 1. -/
  inputs : List Event
  /-- The MODEL's own: the readiness draws to come, next one first. Log entry 2. -/
  draws : List Draw
  /-- The MODEL's own: the number of draws made, the argument of `Config.freeReady`. Log entry 2. -/
  drawCount : Nat
  /-- The MODEL's own: does the environment let PCLK run (60_exceptions.md R151, R162)? Log entry 20. -/
  pclkRuns : Bool
deriving DecidableEq, Repr

/-- Why the model (not the block) stops. A block fault is no such stop: it is a next state (60_exceptions.md R143). -/
inductive Fault
  /-- FORMAT, SEND or DIRECT_STEP reads an LB entry at or above `wr`, or one never written: 20_memory.md R49 ("must
  fault rather than return the previous line's byte"). Safe. -/
  | lineUnwritten
  /-- CAPTURE, FORMAT or DIRECT_STEP writes LB outside `0..LINE_BYTES-1` (R45). Safe. -/
  | lineAddress
  /-- CMD_STEP or a lone WIRE_DEBUG reads a TXT entry never written since reset (R165). Safe. -/
  | textUnwritten
  /-- CMD_STEP reads a payload byte past the payload (R96, R101). Safe. -/
  | payloadIndex
deriving DecidableEq, Repr

/-- What the model has no meaning for. -/
inductive Refusal
  /-- An operation with no meaning yet; raised by `exec` only. Safe. -/
  | notModelled (mnemonic : String)
  /-- The instance's parameters are outside 00_scope.md R9, R10: "An instance outside these ranges is refused".
  Raised by every step. Safe. -/
  | illegalInstance
  /-- A reset that one clock domain alone sees, the other's reset not being asserted or PCLK being stopped
  (70_reset_and_hazards.md R166; 93_implementation_defined.md: refuse). Raised by the reset event. Safe. -/
  | singleDomainReset
  /-- A code that stands for no operation: a command-type byte the block never emits (30_encoding.md R75), or no
  internal step. Raised by a lone code of those spaces. Safe. -/
  | notAnOperation
  /-- A debug frame of 255 text bytes: no such frame (30_encoding.md R74). Raised by a lone WIRE_DEBUG. Safe. -/
  | noSuchFrame
deriving DecidableEq, Repr

/-- The state reset establishes for a configuration (R165, R166). `LB`, `TXT` hold no value, `txd` is unspecified and
takes 0 here (DESIGN CHOICE, log entry 4). -/
def State.resetWith (c : Cfg) : State :=
  { cfg := c
    state := .idle
    fault := 0#4
    wr := 0#11
    cursor := 0#11
    formatted := false
    highByteNext := true
    ckind := .newFrame
    clen := 0#8
    cidx := 0#9
    chk := 0#8
    lb := []
    txt := []
    txtv := 0#254
    txd := 0#8
    req := false
    ack := false
    ackSync := List.replicate c.syncStages false
    reqSync := List.replicate c.syncStages false
    wire := []
    taken := []
    result := []
    inputs := []
    draws := []
    drawCount := 0
    pclkRuns := true }

/-- The machine right after reset: the source build's instance (log entry 6), the wire output of the run empty. -/
def State.reset : State := State.resetWith Config.sourceBuild

end Sys2Proof.Machine
end

