-- ==== Sys2Proof/Machine/Operands.lean ====
section
/-! DEFINITION. The operand forms: what the configuration derives (00_scope.md R9 to R13), the encoder select
(30_encoding.md R71), the index operands, and the bytes of the command frames (R72 to R74, R78). -/
namespace Sys2Proof.Machine

/-- `LINE_BYTES` (R11): `WIDTH` in grayscale, `2*WIDTH` in RGB565. -/
def lineBytes (c : Cfg) : LineIndex :=
  if c.pixfmt = Config.grayscale then c.width.setWidth 11 else 2#11 * c.width.setWidth 11

/-- The legal instances (R9, R10; `SYNC_STAGES` at least 2, 10_state.md R41). -/
def legal (c : Cfg) : Bool :=
  (c.pixfmt == Config.rgb565 || c.pixfmt == Config.grayscale)
    && c.width != 0#10 && c.height != 0#10
    && (c.pixfmt != Config.grayscale || c.width.toNat % 2 == 0)
    && decide (2 ≤ c.syncStages)

/-- `ENCSEL[1:0] = {PIXFMT == 0x01, ~highByteNext}` (R71). -/
def encsel (c : Cfg) (highByteNext : Bool) : BitVec 2 :=
  BitVec.ofBool (c.pixfmt == Config.rgb565) ++ BitVec.ofBool (!highByteNext)

/-- Is `a` an index of the text buffer (R45: `0..253`)? -/
def textIndexOk (a : Byte) : Bool := decide (a.toNat < Config.maxText)

/-- `popcount(v)` (R15): the number of 1 bits. -/
def popcount (v : Byte) : Nat := (List.range 8).countP fun k => v.getLsbD k

/-- The XOR of a sequence of bytes (R73). -/
def xorAll (p : List Byte) : Byte := p.foldl (· ^^^ ·) 0#8

/-- `pnf(3)` (41_framer.md R96): `WIDTH[9:8]` in bits 1:0, `HEIGHT[9:8]` in 3:2, `PIXFMT` in 7:4. -/
def packedByte (c : Cfg) : Byte :=
  (c.width.extractLsb' 8 2).setWidth 8
    ||| ((c.height.extractLsb' 8 2).setWidth 8 <<< 2)
    ||| (c.pixfmt.setWidth 8 <<< 4)

/-- The payload of a new-frame command: `pnf(0..3)` (R72, R96). -/
def newFramePayload (c : Cfg) : List Byte :=
  [0x11#8, c.width.setWidth 8, c.height.setWidth 8, packedByte c]

/-- The payload of a debug command with text `t` (R74). -/
def debugPayload (t : List Byte) : List Byte := 0x13#8 :: t

/-- A command frame (R73): marker, length, payload, checksum. -/
def frameOf (payload : List Byte) : List Byte :=
  0x00#8 :: BitVec.ofNat 8 payload.length :: payload ++ [xorAll payload]

/-- What a receiver reads from the payload bytes 1, 2, 3 (R78): width, height, pixel format. -/
def unpackWidth (p1 p3 : Byte) : BitVec 10 := p1.setWidth 10 ||| ((p3 &&& 0x03#8).setWidth 10 <<< 8)
/-- `height = P2 | (((P3 >> 2) & 0x03) << 8)` (R78). -/
def unpackHeight (p2 p3 : Byte) : BitVec 10 :=
  p2.setWidth 10 ||| (((p3 >>> 2) &&& 0x03#8).setWidth 10 <<< 8)
/-- `pixelFormat = P3 >> 4` (R78). -/
def unpackFormat (p3 : Byte) : BitVec 4 := (p3 >>> 4).setWidth 4

end Sys2Proof.Machine
end

