-- ==== Sys2Proof/Machine/Flags.lean ====
section
/-! DEFINITION. Every flag computation: the scheduler's `formatted` and `highByteNext` (10_state.md R29, R30), the
written marks `TXTV` (R38), the running checksum (R35). The block has no arithmetic condition codes (R25). -/
namespace Sys2Proof.Machine

/-- `formatted <- 1`: the FORMAT sub-step's flag write (42_scheduler.md R116). -/
def setFormatted (s : State) : State := { s with formatted := true }

/-- SEND's flag writes (R117): `formatted <- 0; highByteNext <- ~highByteNext`. -/
def sentFlags (s : State) : State := { s with formatted := false, highByteNext := !s.highByteNext }

/-- DIRECT_STEP's flag write (R126): `highByteNext` only. -/
def toggleHighByte (s : State) : State := { s with highByteNext := !s.highByteNext }

/-- `TXTV[i]` (R38). -/
def textMarked (s : State) (i : Nat) : Bool := s.txtv.getLsbD i

/-- `TXTV[i] <- 1` (R98). -/
def markText (i : Nat) (s : State) : State := { s with txtv := s.txtv ||| (1#254 <<< i) }

/-- Is every text byte `0..n-1` marked (R100)? -/
def allMarked (s : State) (n : Nat) : Bool := (List.range n).all (textMarked s)

/-- `chk <- chk ^ v` (41_framer.md R102). -/
def foldChk (v : Byte) (s : State) : State := { s with chk := s.chk ^^^ v }

end Sys2Proof.Machine
end

