-- ==== Sys2Proof/Machine/Ops.lean ====
section
/-! DEFINITION. The operations every meaning is written over: the two memories (20_memory.md R45 to R49), raising a
fault and leaving it (60_exceptions.md R143 to R146), the send attempt and the hand-off (R152 to R155), reset
(70_reset_and_hazards.md R165, R166), the status port (R158). -/
namespace Sys2Proof.Machine

/-- The outcome of an operation. -/
abbrev Result := Host.Outcome State Fault Refusal

/-- Do `r`, then `k` on the state it leaves. -/
def andThen (r : Result) (k : State → Result) : Result :=
  match r with
  | .next s => k s
  | .fault f => .fault f
  | .refused x => .refused x

/-- The state an outcome leaves, if it leaves one. -/
def nextState? : Result → Option State
  | .next s => some s
  | .fault _ => none
  | .refused _ => none

/-! ### Memories -/

/-- The byte listed at index `a`; an unlisted index holds no value (log entry 5). -/
def Memory.read : Memory → Nat → Option Byte
  | [], _ => none
  | (b, w) :: m, a => if a = b then some w else Memory.read m a

/-- Write the byte at index `a`, keeping the indices strictly rising. -/
def Memory.write : Memory → Nat → Byte → Memory
  | [], a, v => [(a, v)]
  | (b, w) :: m, a, v =>
    if a < b then (a, v) :: (b, w) :: m
    else if a = b then (a, v) :: m
    else (b, w) :: Memory.write m a v

/-- The canonical form: indices strictly rising. -/
abbrev Memory.wf (m : Memory) : Prop := (m.map Prod.fst).Pairwise (· < ·)

/-- `LB[i]`: only bytes captured in the current line can be read (R49). -/
def readLine (s : State) (i : LineIndex) : Option Byte :=
  if i < s.wr then s.lb.read i.toNat else none

/-- `LB[i] <- v`, then `k`; an index outside `0..LINE_BYTES-1` does not exist (R45). -/
def writeLine (i : LineIndex) (v : Byte) (s : State) : Result :=
  if i < lineBytes s.cfg then .next { s with lb := s.lb.write i.toNat v } else .fault .lineAddress

/-- `TXT[i]` (R46). -/
def readText (s : State) (i : Nat) : Option Byte := s.txt.read i

/-- `TXT[i] <- v; TXTV[i] <- 1` (41_framer.md R98). -/
def writeText (i : Nat) (v : Byte) (s : State) : State := markText i { s with txt := s.txt.write i v }

/-- The text bytes `TXT[0..n-1]` of a text buffer, where all of them have been written. -/
def textBytes (m : Memory) : Nat → Option (List Byte)
  | 0 => some []
  | n + 1 => do
    let t ← textBytes m n
    let v ← m.read n
    pure (t ++ [v])

/-! ### Taking a fault -/

/-- `raise Fault(c)`: `fault <- c` and no other write (60_exceptions.md R143). There is no vector, no saved context and
no mode change. -/
def raiseFault (c : Cause) (s : State) : State := { s with fault := c.code }

/-- Is the block out of the faulted condition (R145)? -/
def live (s : State) : Bool := s.fault == 0#4

/-- What a control word, a capture or a slot does: a faulted block ignores it (R145). -/
def whenLive (s : State) (k : Result) : Result := if live s then k else .next s

/-- The return from a fault, and the only one (R146): reset of both domains (R165, R166). The configuration, the wire
output and what the environment holds keep their values (R167). Log entry 13. -/
def resetBlock (s : State) : State :=
  { State.resetWith s.cfg with
    wire := s.wire, taken := s.taken, inputs := s.inputs, draws := s.draws, drawCount := s.drawCount
    pclkRuns := s.pclkRuns }

/-! ### The hand-off -/

/-- `ack_p`: the last stage of the PCLK-side synchroniser (10_state.md R41). -/
def ackP (s : State) : Bool := s.ackSync.getLast?.getD s.ack

/-- `req_s`: the last stage of the SCLK-side synchroniser (R41). -/
def reqS (s : State) : Bool := s.reqSync.getLast?.getD s.req

/-- The hardware's `ready = (ack_p == req)` (R42, R153). -/
def crossingReady (s : State) : Bool := ackP s == s.req

/-- The value of a draw. -/
def drawValue (s : State) : Draw → Bool
  | .ready => true
  | .notReady => false
  | .crossing => crossingReady s

/-- `ready` at this send attempt (00_scope.md R6, R17): the environment's next draw; the free value where it has listed
none. Log entry 2. -/
def ready (s : State) : Bool :=
  match s.draws with
  | d :: _ => drawValue s d
  | [] => Config.freeReady s.drawCount

/-- The draw of this send attempt is used up. -/
def consumeDraw (s : State) : State := { s with draws := s.draws.tail, drawCount := s.drawCount + 1 }

/-- `emit(v)` (R17, 60_exceptions.md R154): append `v` to the wire output; `txd <- v; req <- ~req`. -/
def emit (v : Byte) (s : State) : State := { s with wire := s.wire ++ [v], txd := v, req := !s.req }

/-- A send attempt: one draw; `hit` where the sink is ready, `nop` where it is not ("retried next cycle"). -/
def attempt (s : State) (hit : State → Result) : Result :=
  if ready s then hit (consumeDraw s) else .next (consumeDraw s)

/-- One clock edge of a synchroniser: a new bit enters, the last stage's leaves. -/
def shiftIn (x : Bool) (l : List Bool) : List Bool := (x :: l).take l.length

/-- A PCLK edge clocks the synchroniser of `ack` (10_state.md R41). -/
def pclkEdge (s : State) : State := { s with ackSync := shiftIn s.ack s.ackSync }

/-- The sink takes the byte in `txd` and toggles `ack` (60_exceptions.md R155). -/
def takeByte (s : State) : State := { s with taken := s.taken ++ [s.txd], ack := !s.ack }

/-- A SCLK edge: the synchroniser of `req` is clocked; a sink that sees `req_s != ack` and can accept a byte takes it;
"It never toggles `ack` when `req_s == ack`" (R155). -/
def sclkEdge (canAccept : Bool) (s : State) : State :=
  let t := if canAccept && (reqS s != s.ack) then takeByte s else s
  { t with reqSync := shiftIn s.req s.reqSync }

/-- The environment starts or stops PCLK (R151). -/
def setPclk (runs : Bool) (s : State) : State := { s with pclkRuns := runs }

/-! ### Line and command bookkeeping -/

/-- A command is accepted (41_framer.md R95, R100). -/
def startCommand (k : CmdKind) (len : Byte) (s : State) : State :=
  { s with ckind := k, clen := len, cidx := 0#9, chk := 0#8, state := .cmd }

/-- A line is opened (42_scheduler.md R112). -/
def openLine (s : State) : State :=
  { s with wr := 0#11, cursor := 0#11, formatted := false, highByteNext := true, state := .line }

/-- `state <- x` (10_state.md R22). -/
def setCtl (x : CtlState) (s : State) : State := { s with state := x }

/-- `wr <- wr + 1` (R27). -/
def bumpWr (s : State) : State := { s with wr := s.wr + 1#11 }

/-- `cursor <- cursor + 1` (R28). -/
def bumpCursor (s : State) : State := { s with cursor := s.cursor + 1#11 }

/-! ### Outputs -/

/-- The status port (60_exceptions.md R149, R158). -/
structure Status where
  stState : BitVec 2
  stFault : BitVec 4
  stWr : LineIndex
  stCursor : LineIndex
  stFormatted : Bool
  stHbn : Bool
deriving DecidableEq, Repr

/-- What the block drives on the status port in every PCLK cycle (R158). -/
def statusPort (s : State) : Status :=
  { stState := s.state.code, stFault := s.fault, stWr := s.wr, stCursor := s.cursor
    stFormatted := s.formatted, stHbn := s.highByteNext }

/-- What the block drives on `tx_data`, `tx_req` (R149). -/
def txPort (s : State) : Byte × Bool := (s.txd, s.req)

end Sys2Proof.Machine
end

