-- ==== Sys2Proof/Machine/Encoder.lean ====
section
/-! DEFINITION. The byte encoder (40_byte_encoder.md R83 to R88): four combinational functions, and the four ENCSEL
rows of the opcode table. A row presented by itself yields its byte in the model's own field `result` and touches
no state of the block (R83; log entry 8); the scheduler applies the same functions in place (`appliedEncoder`). -/
namespace Sys2Proof.Machine

/-- R84: "clear bit 0; if result is 0, set bit 1." The zero test is on the result (90_conflicts.md C2). -/
def grayscaleFirst (b : Byte) : Byte :=
  let t := b &&& 0xFE#8
  if t = 0x00#8 then 0x02#8 else t

/-- R85: "set bit 0." -/
def grayscaleSecond (b : Byte) : Byte := b ||| 0x01#8

/-- R86: "if bit 5 is set, clear bit 3; else set bit 3." -/
def rgbHigh (b : Byte) : Byte := if b.getLsbD 5 then b &&& 0xF7#8 else b ||| 0x08#8

/-- R87: "if bit 3 is set, set bit 5 and set bit 0 (force nonzero); else clear bit 5 and set bit 0", bit 0 in both
branches (90_conflicts.md C1). -/
def rgbLow (b : Byte) : Byte := if b.getLsbD 3 then b ||| 0x21#8 else (b &&& 0xDF#8) ||| 0x01#8

/-- The function an `ENCSEL` value selects (30_encoding.md R71). -/
def encoderOf (sel : BitVec 2) (b : Byte) : Byte :=
  if sel = 0b00#2 then grayscaleFirst b
  else if sel = 0b01#2 then grayscaleSecond b
  else if sel = 0b10#2 then rgbHigh b
  else rgbLow b

/-- `enc(b)` for the byte at `cursor` (R88), with `PIXFMT` and `highByteNext` before the step that applies it. -/
def appliedEncoder (s : State) (b : Byte) : Byte := encoderOf (encsel s.cfg s.highByteNext) b

/-- `e(i)` (42_scheduler.md R131): the encoded value of the raw byte `b` at line index `i`. -/
def encodedAt (c : Cfg) (i : Nat) (b : Byte) : Byte := encoderOf (encsel c (i % 2 == 0)) b

/-- An output of a combinational function, in the model's own field. -/
def yieldResult (r : List Byte) (s : State) : State := { s with result := r }

/-- `grayscaleFirst(b)` (R84). -/
def execGrayscaleFirst (b : Byte) (s : State) : Result := .next (yieldResult [grayscaleFirst b] s)

/-- `grayscaleSecond(b)` (R85). -/
def execGrayscaleSecond (b : Byte) (s : State) : Result := .next (yieldResult [grayscaleSecond b] s)

/-- `rgbHigh(b)` (R86). -/
def execRgbHigh (b : Byte) (s : State) : Result := .next (yieldResult [rgbHigh b] s)

/-- `rgbLow(b)` (R87). -/
def execRgbLow (b : Byte) (s : State) : Result := .next (yieldResult [rgbLow b] s)

end Sys2Proof.Machine
end

