-- ==== Sys2Proof/Machine/Framer.lean ====
section
/-! DEFINITION. The frame/command framer (41_framer.md R93 to R107) and the two wire formats (30_encoding.md R72 to
R75). -/
namespace Sys2Proof.Machine

/-- NEWFRAME (R95). -/
def execNewframe (s : State) : Result :=
  whenLive s <|
    if s.state ≠ .idle then .next (raiseFault .protocol s)
    else .next (startCommand .newFrame 4#8 s)

/-- TEXTWR `a, b` (R98). -/
def execTextwr (a b : Byte) (s : State) : Result :=
  whenLive s <|
    if s.state = .cmd then .next (raiseFault .protocol s)
    else if !textIndexOk a then .next (raiseFault .textIndex s)
    else .next (writeText a.toNat b s)

/-- DEBUG `n` (R100). -/
def execDebug (n : Byte) (s : State) : Result :=
  whenLive s <|
    if s.state ≠ .idle then .next (raiseFault .protocol s)
    else if n = 0#8 then .next s
    else if Config.maxText < n.toNat then .next (raiseFault .textLength s)
    else if !allMarked s n.toNat then .next (raiseFault .textUnwritten s)
    else .next (startCommand .debug (n + 1#8) s)

/-- `payload(j)` of the command being emitted: `pnf(j)` (R96) or `pdbg(j)` (R101). -/
def payloadByte (s : State) (j : Nat) : Except Fault Byte :=
  match s.ckind with
  | .newFrame =>
    match (newFramePayload s.cfg)[j]? with
    | some v => .ok v
    | none => .error .payloadIndex
  | .debug =>
    if j = 0 then .ok 0x13#8
    else match readText s (j - 1) with
      | some v => .ok v
      | none => .error .textUnwritten

/-- The byte of the command frame at `cidx` (R102): marker, length, payload, checksum. -/
def frameByte (s : State) : Except Fault Byte :=
  if s.cidx.toNat = 0 then .ok 0x00#8
  else if s.cidx.toNat = 1 then .ok s.clen
  else if s.cidx.toNat ≤ s.clen.toNat + 1 then payloadByte s (s.cidx.toNat - 2)
  else .ok s.chk

/-- What CMD_STEP writes besides `emit(v)` (R102): the checksum fold, `cidx`, and the end of the command. -/
def advanceFrame (v : Byte) (s : State) : State :=
  let t := if 2 ≤ s.cidx.toNat ∧ s.cidx.toNat ≤ s.clen.toNat + 1 then foldChk v s else s
  if s.cidx.toNat = s.clen.toNat + 2 then { t with cidx := 0#9, state := .idle }
  else { t with cidx := s.cidx + 1#9 }

/-- CMD_STEP (R102). Where it is not enabled it is not taken: no state changes (00_scope.md R17 `hold`; log entry 10). -/
def execCmdStep (s : State) : Result :=
  if live s && s.state = .cmd then
    match frameByte s with
    | .error f => .fault f
    | .ok v => attempt s fun t => .next (advanceFrame v (emit v t))
  else .next s

/-- WIRE_NEWFRAME: the new-frame command frame of this instance (R72, R73, R96), as an output format. The block emits
its bytes by CMD_STEP only (R106); log entry 9. -/
def execWireNewframe (s : State) : Result := .next (yieldResult (frameOf (newFramePayload s.cfg)) s)

/-- WIRE_DEBUG: the debug command frame of the first `n` text bytes (R73, R74), as an output format; no frame where the
text is empty. Log entries 9, 17. -/
def execWireDebug (n : Byte) (s : State) : Result :=
  if n = 0#8 then .next (yieldResult [] s)
  else if Config.maxText < n.toNat then .refused .noSuchFrame
  else match textBytes s.txt n.toNat with
    | some t => .next (yieldResult (frameOf (debugPayload t)) s)
    | none => .fault .textUnwritten

end Sys2Proof.Machine
end

