-- ==== Sys2Proof/Machine/Scheduler.lean ====
section
/-! DEFINITION. The transmit scheduler and line FIFO (42_scheduler.md R108 to R130). -/
namespace Sys2Proof.Machine

/-- NOP (R110). -/
def execNop (s : State) : Result := .next s

/-- LINESTART (R112). -/
def execLinestart (s : State) : Result :=
  whenLive s <|
    if s.state ≠ .idle then .next (raiseFault .protocol s)
    else .next (openLine s)

/-- CAPTURE `b` (R113). -/
def execCapture (b : Byte) (s : State) : Result :=
  whenLive s <|
    if s.state ≠ .line then .next (raiseFault .protocol s)
    else if s.wr = lineBytes s.cfg then .next (raiseFault .lineOverflow s)
    else if s.cfg.mode = .direct ∧ s.cursor < s.wr then .next (raiseFault .directOverrun s)
    else andThen (writeLine s.wr b s) fun t => .next (bumpWr t)

/-- LINEEND (R115). -/
def execLineend (s : State) : Result :=
  whenLive s <|
    if s.state ≠ .line then .next (raiseFault .protocol s)
    else if s.wr ≠ lineBytes s.cfg then .next (raiseFault .lineShort s)
    else if s.cursor = s.wr then .next (setCtl .idle s)
    else .next (setCtl .drain s)

/-- Sub-step FORMAT (R116): `LB[cursor] <- enc(LB[cursor]); formatted <- 1`. -/
def formatStep (s : State) : Result :=
  match readLine s s.cursor with
  | none => .fault .lineUnwritten
  | some v => andThen (writeLine s.cursor (appliedEncoder s v) s) fun t => .next (setFormatted t)

/-- Sub-step SEND (R117): `emit(LB[cursor]); cursor <- cursor + 1; formatted <- 0; highByteNext <- ~highByteNext`. -/
def sendStep (s : State) : Result :=
  match readLine s s.cursor with
  | none => .fault .lineUnwritten
  | some v => .next (sentFlags (bumpCursor (emit v s)))

/-- SLOT (R118, R119). -/
def execSlot (s : State) : Result :=
  whenLive s <|
    if s.state ≠ .line ∨ s.cfg.mode = .direct then .next s
    else if s.cursor = s.wr then .next s
    else if !s.formatted then formatStep s
    else attempt s sendStep

/-- "if cursor + 1 == wr then state <- IDLE", with the `cursor` before the step (R124, R126); `before` is the state the
step read. -/
def finishLine (before : State) (s : State) : State :=
  if before.cursor.toNat + 1 = before.wr.toNat then setCtl .idle s else s

/-- DRAIN_STEP (R124). Where it is not enabled it is not taken (log entry 10). -/
def execDrainStep (s : State) : Result :=
  if live s && s.state = .drain && s.cfg.mode = .buffered then
    if !s.formatted then formatStep s
    else attempt s fun t => andThen (sendStep t) fun u => .next (finishLine s u)
  else .next s

/-- What a DIRECT_STEP does when the sink is ready (R126), `v` the encoded byte. -/
def directSend (v : Byte) (s : State) : Result :=
  andThen (writeLine s.cursor v s) fun t => .next (toggleHighByte (bumpCursor (emit v t)))

/-- DIRECT_STEP (R126). Where it is not enabled it is not taken (log entry 10). -/
def execDirectStep (s : State) : Result :=
  if live s && s.cfg.mode = .direct && (s.state = .line || s.state = .drain) && decide (s.cursor < s.wr) then
    match readLine s s.cursor with
    | none => .fault .lineUnwritten
    | some raw =>
      attempt s fun t => andThen (directSend (appliedEncoder s raw) t) fun u =>
        .next (if s.state = .drain then finishLine s u else u)
  else .next s

end Sys2Proof.Machine
end

