-- ==== Sys2Proof/Machine/Dispatch.lean ====
section
/-! DEFINITION. One arm per operation of the opcode table. -/
namespace Sys2Proof.Machine

def exec (i : Instr) (s : State) : Host.Outcome State Fault Refusal :=
  match i with
  -- CTRL24
  | .nop => Sys2Proof.Machine.execNop s
  | .newframe => Sys2Proof.Machine.execNewframe s
  | .textwr a b => Sys2Proof.Machine.execTextwr a b s
  | .debug n => Sys2Proof.Machine.execDebug n s
  | .linestart => Sys2Proof.Machine.execLinestart s
  | .lineend => Sys2Proof.Machine.execLineend s
  -- CAP8, STROBE
  | .capture b => Sys2Proof.Machine.execCapture b s
  | .slot => Sys2Proof.Machine.execSlot s
  -- ENCSEL
  | .grayscaleFirst b => Sys2Proof.Machine.execGrayscaleFirst b s
  | .grayscaleSecond b => Sys2Proof.Machine.execGrayscaleSecond b s
  | .rgbHigh b => Sys2Proof.Machine.execRgbHigh b s
  | .rgbLow b => Sys2Proof.Machine.execRgbLow b s
  -- INTERNAL
  | .cmdStep => Sys2Proof.Machine.execCmdStep s
  | .drainStep => Sys2Proof.Machine.execDrainStep s
  | .directStep => Sys2Proof.Machine.execDirectStep s
  -- WIRE
  | .wireNewframe => Sys2Proof.Machine.execWireNewframe s
  | .wireDebug n => Sys2Proof.Machine.execWireDebug n s

end Sys2Proof.Machine
end

