-- ==== Sys2Proof/Machine/Events.lean ====
section
/-! DEFINITION. What one move of the environment does: a lone transaction (00_scope.md R8), a PCLK cycle
(70_reset_and_hazards.md R173), a SCLK cycle (60_exceptions.md R155), a reset (R165, R166). -/
namespace Sys2Proof.Machine

/-- An illegal control word raises `F_ILLEGAL` instead of being performed (30_encoding.md R67). -/
def illegalWord (s : State) : Result := whenLive s (.next (raiseFault .illegal s))

/-- A code that decodes to no operation: an illegal control word faults; a slot strobe at 0 marks no slot; the other
spaces' spare codes are never presented by the hardware and are refused (log entries 10, 16). -/
def undecoded (c : Code) (s : State) : Result :=
  match c with
  | .ctrl24 _ => illegalWord s
  | .strobe _ => .next s
  | .cap8 _ | .encsel _ _ | .internal _ | .wire _ _ => .refused .notAnOperation

/-- One transaction: decode its code and perform it. -/
def runCode (c : Code) (s : State) : Result :=
  match decode c with
  | .ok i => exec i s
  | .error _ => undecoded c s

/-- The internal step that is enabled, if one is (42_scheduler.md R130). -/
def enabledStep (s : State) : Option Instr :=
  if !live s then none
  else if s.state = .cmd then some .cmdStep
  else if s.state = .drain ∧ s.cfg.mode = .buffered then some .drainStep
  else if s.cfg.mode = .direct ∧ (s.state = .line ∨ s.state = .drain) ∧ s.cursor < s.wr then some .directStep
  else none

/-- First in a cycle (R173 (1)): the enabled internal step, or the SLOT sub-step. -/
def firstOfCycle (slot : Bool) (s : State) : Result :=
  match enabledStep s with
  | some i => exec i s
  | none => if slot then exec .slot s else .next s

/-- A control word and a capture in one cycle: `Fault(F_PROTOCOL)`, neither is performed (30_encoding.md R70). -/
def collision (s : State) : Result := whenLive s (.next (raiseFault .protocol s))

/-- Second in a cycle (R173 (2)): the control word or the capture. -/
def secondOfCycle (p : PortSample) (s : State) : Result :=
  match p.ctl, p.cap with
  | some _, some _ => collision s
  | some w, none => runCode (.ctrl24 w) s
  | none, some b => runCode (.cap8 b) s
  | none, none => .next s

/-- One PCLK cycle (R142, R173): each event sees the state the earlier left; then the clock edge of the PCLK-side
synchroniser (10_state.md R41). -/
def runCycle (p : PortSample) (s : State) : Result :=
  andThen (firstOfCycle p.slot s) fun t =>
    andThen (secondOfCycle p t) fun u => .next (pclkEdge u)

/-- The reset inputs: both domains together (R165), which needs both clocks ("for long enough to be seen in both
clocks", R166); a reset that one domain alone sees is refused; neither is no reset. Log entries 13, 20. -/
def runReset (prst srst : Bool) (s : State) : Result :=
  if prst && srst && s.pclkRuns then .next (resetBlock s)
  else if prst || srst then .refused .singleDomainReset
  else .next s

/-- One move of the environment. -/
def runEvent (e : Event) (s : State) : Result :=
  match e with
  | .op c => runCode c s
  | .cycle p => runCycle p s
  | .sclk canAccept => .next (sclkEdge canAccept s)
  | .pclk runs => .next (setPclk runs s)
  | .reset prst srst => runReset prst srst s

/-- The environment's next move is taken off the list. -/
def popInput (s : State) : State := { s with inputs := s.inputs.tail }

/-- Does the move take place in a PCLK cycle? A SCLK cycle, the clock's own start and stop, the reset inputs and the
combinational rows (ENCSEL, WIRE) do not. -/
def needsPclk : Event → Bool
  | .op c => c.space != .encsel && c.space != .wire
  | .cycle _ => true
  | .sclk _ => false
  | .pclk _ => false
  | .reset _ _ => false

/-- Does the controller issue something with this move (00_scope.md R6(a): "control words on the control port and slot
strobes"; the resets are its to assert, 70_reset_and_hazards.md R170)? Captures are the sensor source's, SCLK cycles the
sink's; quiet cycles, internal steps and combinational rows are nobody's issue. Log entry 21. -/
def controllerIssues : Event → Bool
  | .op c => c.space == .ctrl24 || c == .strobe 1#1
  | .cycle p => p.ctl.isSome || p.slot
  | .sclk _ => false
  | .pclk _ => false
  | .reset prst srst => prst || srst

/-- No move listed is the controller's. -/
def controllerSilent (s : State) : Bool := s.inputs.all fun e => !controllerIssues e

/-- One step of an instance: the environment's next move; a PCLK cycle with quiet ports where it has listed none
(log entry 1). While PCLK is stopped nothing takes place that needs a PCLK cycle: "If `PCLK` stops, the block stops with
it" (60_exceptions.md R151, R162; log entry 20). An illegal instance has no model (00_scope.md R9, R10). -/
def stepInstance (s : State) : Result :=
  if !legal s.cfg then .refused .illegalInstance
  else match s.inputs with
    | [] => if s.pclkRuns then runCycle PortSample.quiet s else .next s
    | e :: _ => if needsPclk e && !s.pclkRuns then .next (popInput s) else runEvent e (popInput s)

/-- Present the code of a table word next, with PCLK running (log entries 11, 20). -/
def placeWord (nbits w : Nat) (s : State) : State :=
  { s with inputs := .op (codeOfTableWord nbits w) :: s.inputs, pclkRuns := true }

end Sys2Proof.Machine
end

