-- ==== Sys2Proof/Safety.lean ====
section
/-! DEFINITION. What the claims are stated in: runs, their fairness, ends and hangs (70_reset_and_hazards.md R177, R182,
R183), the invariants of the block (42_scheduler.md R132 and the rules beside it) and of the clock-domain crossing
(60_exceptions.md R157), and the wire output a sequence of operations owes (R137, R138). -/
namespace Sys2Proof.Machine

/-! ### Ends and hangs -/

/-- R182: "A run of the model ends well at a step boundary where `fault = 0`, `state = IDLE`, and the controller issues
nothing more." What a state alone shows of it; other agents may go on (`controllerSilent`). -/
def endedWell (s : State) : Bool := s.fault == 0#4 && s.state == .idle && controllerSilent s

/-- R183: the places where the block can wait for the sink for ever: `CMD`, `DRAIN`, or DIRECT mode with a byte
waiting. -/
def waitsForSink (s : State) : Bool :=
  live s && (s.state == .cmd || s.state == .drain
    || (s.cfg.mode == .direct && s.state == .line && decide (s.cursor < s.wr)))

/-! ### Runs: observation, fairness, hangs

A run is a sequence of states, one for each step boundary. It is no part of State; the statements quantify over it. -/

/-- `u` is `t` once the environment has listed further moves and draws (00_scope.md R6, R8). -/
def Supplied (t u : State) : Prop :=
  ∃ (es : List Event) (ds : List Draw), u = { t with inputs := t.inputs ++ es, draws := t.draws ++ ds }

/-- A run: each state is what the step before left, with the moves and draws the environment has listed since. -/
def IsRun (r : Nat → State) : Prop := ∀ n, ∃ t, step (r n) = .next t ∧ Supplied t (r (n + 1))

/-- The step from `s` makes a send attempt: it uses up a draw, whichever kind of draw it is. The readiness this attempt
sees is `ready s`. -/
def attemptsSend (s : State) : Bool :=
  match nextState? (step s) with
  | some t => t.drawCount != s.drawCount
  | none => false

/-- The step from `s` takes place in a PCLK cycle. -/
def inPclkCycle (s : State) : Bool :=
  s.pclkRuns && match s.inputs with
    | [] => true
    | e :: _ => needsPclk e

/-- The step from `s` is a whole PCLK cycle, in which the enabled internal step is taken (42_scheduler.md R130). -/
def isWholeCycle (s : State) : Bool :=
  s.pclkRuns && match s.inputs with
    | [] => true
    | .cycle _ :: _ => true
    | .op _ :: _ => false
    | .sclk _ :: _ => false
    | .pclk _ :: _ => false
    | .reset _ _ :: _ => false

/-- R177, the only liveness assumption: "at every point where a send is attempted again and again, `ready` is eventually
true". Where attempts go on for ever, from every point on there is one that finds the sink ready. -/
def FairRun (r : Nat → State) : Prop :=
  (∀ m, ∃ k ≥ m, attemptsSend (r k) = true) → ∀ n, ∃ k ≥ n, attemptsSend (r k) = true ∧ ready (r k) = true

/-- R182: the run ends well at step boundary `n`: there `fault = 0` and `state = IDLE`, and from there on the controller
issues nothing more, whatever the sink and the clocks still do. No state of the run, before or after, is faulted: "a run
that reaches it refutes any claim of correct completion" (60_exceptions.md R145), and a reset does not mend that run
(93_implementation_defined.md: "The run never ends well"). Log entry 21. -/
def EndsWellAt (r : Nat → State) (n : Nat) : Prop :=
  (∀ m, (r m).fault = 0#4) ∧ (r n).state = .idle ∧ ∀ m ≥ n, controllerSilent (r m) = true

/-- R182: the run ends well, and its result is the wire output `out` at that point, its observation (00_scope.md R18). -/
def EndsWellWith (r : Nat → State) (out : List Byte) : Prop := ∃ n, EndsWellAt r n ∧ out = (r n).wire

/-- PCLK stops before the run has ended (R183, 60_exceptions.md R151): from some point on nothing takes place in a PCLK
cycle, and at no point from there on has the run ended well. -/
def PclkStops (r : Nat → State) : Prop :=
  ∃ n, ∀ m ≥ n, inPclkCycle (r m) = false ∧ ¬ EndsWellAt r m

/-- R183: the hangs. A run without the fairness of R177 is one; so is a run in which PCLK stops. -/
def Hangs (r : Nat → State) : Prop := ¬ FairRun r ∨ PclkStops r

/-- No reset happens from step `n` of the run on. -/
def NoResetFrom (r : Nat → State) (n : Nat) : Prop := ∀ m ≥ n, (r m).inputs.head? ≠ some (.reset true true)

/-! ### The invariant of the block -/

/-- The payload of the command being emitted (41_framer.md R96, R101). -/
def commandPayload (s : State) : List Byte :=
  match s.ckind with
  | .newFrame => newFramePayload s.cfg
  | .debug => debugPayload ((textBytes s.txt (s.clen.toNat - 1)).getD [])

/-- What holds at every step boundary. -/
structure BlockInv (s : State) : Prop where
  /-- The instance is legal (00_scope.md R9, R10). -/
  cfg_legal : legal s.cfg = true
  /-- Codes 9 to 15 are never raised (60_exceptions.md R140). -/
  fault_code : s.fault.toNat ≤ 8
  /-- `0 <= cursor <= wr <= LINE_BYTES` (10_state.md R27, R28; 20_memory.md R48; R132(a)). -/
  cursor_le_wr : s.cursor.toNat ≤ s.wr.toNat
  wr_le_line : s.wr.toNat ≤ (lineBytes s.cfg).toNat
  /-- R132(b). -/
  formatted_pending : s.formatted = true → s.cfg.mode = .buffered ∧ s.cursor.toNat < s.wr.toNat
  /-- R132(c). -/
  drain_full : s.state = .drain → s.wr = lineBytes s.cfg ∧ s.cursor.toNat < s.wr.toNat
  /-- R31, R132(d). -/
  pairing : s.highByteNext = (s.cursor.toNat % 2 == 0)
  /-- R127. -/
  direct_one : s.cfg.mode = .direct → s.wr.toNat - s.cursor.toNat ≤ 1
  /-- Outside a line nothing is unsent (R125). -/
  outside_sent : s.state = .idle ∨ s.state = .cmd → s.cursor = s.wr
  /-- Every byte captured in the current line is in LB (R47, R49). -/
  line_written : ∀ i < s.wr.toNat, (s.lb.read i).isSome = true
  /-- A formatted byte is an encoded one: the encoder leaves it as it is (R132(e), 40_byte_encoder.md R91). -/
  formatted_encoded : s.formatted = true →
    ∀ v, s.lb.read s.cursor.toNat = some v → appliedEncoder s v = v
  /-- `TXTV[i]` marks exactly the written entries (10_state.md R38). -/
  marks : ∀ i < 254, textMarked s i = (s.txt.read i).isSome
  /-- The memories are canonical and inside their address spaces (20_memory.md R45). -/
  lb_wf : s.lb.wf
  txt_wf : s.txt.wf
  lb_inside : ∀ c ∈ s.lb, c.1 < (lineBytes s.cfg).toNat
  txt_inside : ∀ c ∈ s.txt, c.1 < 254
  /-- The command being emitted: its length byte (R33), its position (R34), its text, its checksum (R35). -/
  cmd_len : s.state = .cmd → s.clen.toNat = (commandPayload s).length ∧ 1 ≤ s.clen.toNat
  cmd_idx : s.state = .cmd → s.cidx.toNat ≤ s.clen.toNat + 2
  cmd_text : s.state = .cmd → s.ckind = .debug → (textBytes s.txt (s.clen.toNat - 1)).isSome = true
  cmd_chk : s.state = .cmd → s.chk = xorAll ((commandPayload s).take (s.cidx.toNat - 2))
  /-- The synchronisers have `SYNC_STAGES` stages (R41). -/
  ack_stages : s.ackSync.length = s.cfg.syncStages
  req_stages : s.reqSync.length = s.cfg.syncStages

/-! ### The clock-domain crossing -/

/-- The bits of the hand-off in the order a toggle travels: `req`, its synchroniser, `ack`, its synchroniser. -/
def ring (s : State) : List Bool := s.req :: s.reqSync ++ s.ack :: s.ackSync

/-- The number of places where two neighbours differ. -/
def changes : List Bool → Nat
  | a :: b :: l => (if a = b then 0 else 1) + changes (b :: l)
  | _ => 0

/-- The bytes handed off and not yet taken: the one in `txd` while `req` and `ack` differ (10_state.md R40). -/
def outstanding (s : State) : List Byte := if s.req = s.ack then [] else [s.txd]

/-- At most one toggle is under way, and the sink has, or is about to be given, every emitted byte once and in order
(60_exceptions.md R153, R157). -/
structure HandoffInv (s : State) : Prop where
  one_toggle : changes (ring s) ≤ 1
  bytes : s.wire = s.taken ++ outstanding s

/-! ### What the wire is owed -/

/-- The bytes of the current command or line that are still to be emitted. -/
def owed (s : State) : List Byte :=
  match s.state with
  | .idle => []
  | .cmd => (frameOf (commandPayload s)).drop s.cidx.toNat
  | .line | .drain =>
    (List.range' s.cursor.toNat (s.wr.toNat - s.cursor.toNat)).map fun i =>
      encodedAt s.cfg i ((s.lb.read i).getD 0#8)

/-- The debug frame of the first `n` text bytes; nothing for an empty text (41_framer.md R100). -/
def debugFrame (m : Memory) (n : Byte) : List Byte :=
  if n = 0#8 then [] else frameOf (debugPayload ((textBytes m n.toNat).getD []))

/-- The bytes an accepted operation adds to what the wire is owed: the frame of a command (R73), the encoded value of a
captured byte (42_scheduler.md R131). -/
def contribution (i : Instr) (s : State) : List Byte :=
  match i with
  | .newframe => frameOf (newFramePayload s.cfg)
  | .debug n => debugFrame s.txt n
  | .capture b => [encodedAt s.cfg s.wr.toNat b]
  | .nop | .textwr _ _ | .linestart | .lineend | .slot | .grayscaleFirst _ | .grayscaleSecond _
  | .rgbHigh _ | .rgbLow _ | .cmdStep | .drainStep | .directStep | .wireNewframe | .wireDebug _ => []

/-- The wire output the operations of a run call for (R131, R137, R138): it depends on the configuration's format and
size, the text buffer and the operations, not on `MODE`, the slots, the internal steps or the draws. `k` is the number
of bytes captured in the current line. -/
def expectedWire (c : Cfg) : Memory → Nat → List Instr → List Byte
  | _, _, [] => []
  | m, k, .newframe :: is => frameOf (newFramePayload c) ++ expectedWire c m k is
  | m, k, .debug n :: is => debugFrame m n ++ expectedWire c m k is
  | m, k, .textwr a b :: is => expectedWire c (m.write a.toNat b) k is
  | m, _, .linestart :: is => expectedWire c m 0 is
  | m, k, .capture b :: is => encodedAt c k b :: expectedWire c m (k + 1) is
  | m, k, .nop :: is | m, k, .lineend :: is | m, k, .slot :: is | m, k, .cmdStep :: is
  | m, k, .drainStep :: is | m, k, .directStep :: is | m, k, .grayscaleFirst _ :: is
  | m, k, .grayscaleSecond _ :: is | m, k, .rgbHigh _ :: is | m, k, .rgbLow _ :: is
  | m, k, .wireNewframe :: is | m, k, .wireDebug _ :: is => expectedWire c m k is

/-- Perform a sequence of operations, one after the other. -/
def runOps : List Instr → State → Result
  | [], s => .next s
  | i :: is, s => andThen (exec i s) (runOps is)

/-- An input of the controller or of the sensor source: a control word or a capture (30_encoding.md R63 (1), (2)). -/
def isInput (i : Instr) : Bool := i.space == .ctrl24 || i.space == .cap8

/-- An operation of the block: a control operation, a capture, a slot or an internal step; not a lone ENCSEL or WIRE
row (00_scope.md R2). -/
def isOperation (i : Instr) : Bool := i.space != .encsel && i.space != .wire

/-- The byte a capture presents. -/
def capturedByte : Instr → Option Byte
  | .capture b => some b
  | .nop | .newframe | .textwr _ _ | .debug _ | .linestart | .lineend | .slot | .grayscaleFirst _
  | .grayscaleSecond _ | .rgbHigh _ | .rgbLow _ | .cmdStep | .drainStep | .directStep | .wireNewframe
  | .wireDebug _ => none

/-- The bytes a sequence of operations captures, in order. -/
def capturedBytes (is : List Instr) : List Byte := is.filterMap capturedByte

/-- The operations that can stand inside one line (42_scheduler.md R108): all but those that need `IDLE` to start
something else. -/
def insideLine (i : Instr) : Bool :=
  isOperation i && match i with
    | .newframe | .debug _ | .linestart => false
    | .nop | .textwr _ _ | .lineend | .capture _ | .slot | .grayscaleFirst _ | .grayscaleSecond _ | .rgbHigh _
    | .rgbLow _ | .cmdStep | .drainStep | .directStep | .wireNewframe | .wireDebug _ => true

/-- A finite sufficient form of the sink's fairness, for a run of operations: among the listed draws to come, the sink
is ready at `n` attempts at least. The fairness of R177 itself, over runs with any draws, is `FairRun`. -/
def fairFor (n : Nat) (s : State) : Prop := n ≤ s.draws.count .ready

end Sys2Proof.Machine
end

