-- ==== Sys2Proof/Certificates/Slice0/Obligations.lean ====
section
/-! DEFINITION. What the provers are asked: statements from the numbered rules of spec/. -/
open Sys2Proof Sys2Proof.Machine

/-! ### The byte encoder (40_byte_encoder.md) -/

/-- R84: `grayscaleFirst(b)`: encoding, result, no other write, no fault, the corner cases and the examples.
That a lone ENCSEL row completes and leaves its
byte in the model's own result field is the model's choice (log entry 8). -/
def Obligations.GrayscaleFirstResult : Prop :=
  ∀ (b : Byte) (s : State),
    decode (.encsel 0b00#2 b) = .ok (.grayscaleFirst b) ∧
    exec (.grayscaleFirst b) s =
      .next { s with result := [if b &&& 0xFE#8 = 0x00#8 then 0x02#8 else b &&& 0xFE#8] } ∧
    (grayscaleFirst b).getLsbD 0 = false ∧
    grayscaleFirst b = (if b.toNat ≤ 3 then 0x02#8 else b &&& 0xFE#8) ∧
    grayscaleFirst 0x81#8 = 0x80#8 ∧ grayscaleFirst 0x01#8 = 0x02#8

/-- R85: `grayscaleSecond(b)`. That a lone ENCSEL row completes and leaves its
byte in the model's own result field is the model's choice (log entry 8). -/
def Obligations.GrayscaleSecondResult : Prop :=
  ∀ (b : Byte) (s : State),
    decode (.encsel 0b01#2 b) = .ok (.grayscaleSecond b) ∧
    exec (.grayscaleSecond b) s = .next { s with result := [b ||| 0x01#8] } ∧
    (grayscaleSecond b).getLsbD 0 = true ∧
    (b.getLsbD 0 = true → grayscaleSecond b = b) ∧
    grayscaleSecond 0x00#8 = 0x01#8 ∧ grayscaleSecond 0xFE#8 = 0xFF#8 ∧ grayscaleSecond 0x80#8 = 0x81#8

/-- R86: `rgbHigh(b)`. That a lone ENCSEL row completes and leaves its
byte in the model's own result field is the model's choice (log entry 8). -/
def Obligations.RgbHighResult : Prop :=
  ∀ (b : Byte) (s : State),
    decode (.encsel 0b10#2 b) = .ok (.rgbHigh b) ∧
    exec (.rgbHigh b) s =
      .next { s with result := [if b.getLsbD 5 = true then b &&& 0xF7#8 else b ||| 0x08#8] } ∧
    (∀ k, k ≠ 3 → (rgbHigh b).getLsbD k = b.getLsbD k) ∧
    rgbHigh 0x00#8 = 0x08#8 ∧ rgbHigh 0x28#8 = 0x20#8 ∧ rgbHigh 0xFF#8 = 0xF7#8 ∧ rgbHigh 0xAA#8 = 0xA2#8

/-- R87: `rgbLow(b)`. That a lone ENCSEL row completes and leaves its
byte in the model's own result field is the model's choice (log entry 8). -/
def Obligations.RgbLowResult : Prop :=
  ∀ (b : Byte) (s : State),
    decode (.encsel 0b11#2 b) = .ok (.rgbLow b) ∧
    exec (.rgbLow b) s =
      .next { s with result := [if b.getLsbD 3 = true then b ||| 0x21#8 else (b &&& 0xDF#8) ||| 0x01#8] } ∧
    (rgbLow b).getLsbD 0 = true ∧
    (∀ k, k ≠ 5 → k ≠ 0 → (rgbLow b).getLsbD k = b.getLsbD k) ∧
    rgbLow 0x00#8 = 0x01#8 ∧ rgbLow 0x08#8 = 0x29#8 ∧ rgbLow 0x20#8 = 0x01#8 ∧ rgbLow 0xFF#8 = 0xFF#8 ∧
    rgbLow 0xF7#8 = 0xD7#8

/-- R71, R88: the encoder the scheduler applies is the one `{PIXFMT == 0x01, ~highByteNext}` selects. -/
def Obligations.EncselSelectsTheAppliedEncoder : Prop :=
  ∀ (s : State) (b : Byte), legal s.cfg = true →
    (s.cfg.pixfmt = 0x2#4 → s.highByteNext = true →
      encsel s.cfg s.highByteNext = 0b00#2 ∧ appliedEncoder s b = grayscaleFirst b) ∧
    (s.cfg.pixfmt = 0x2#4 → s.highByteNext = false →
      encsel s.cfg s.highByteNext = 0b01#2 ∧ appliedEncoder s b = grayscaleSecond b) ∧
    (s.cfg.pixfmt = 0x1#4 → s.highByteNext = true →
      encsel s.cfg s.highByteNext = 0b10#2 ∧ appliedEncoder s b = rgbHigh b) ∧
    (s.cfg.pixfmt = 0x1#4 → s.highByteNext = false →
      encsel s.cfg s.highByteNext = 0b11#2 ∧ appliedEncoder s b = rgbLow b)

/-- R89, R133: no encoder output is zero, and every byte the scheduler emits is nonzero. -/
def Obligations.PixelBytesAreNeverTheMarker : Prop :=
  (∀ b : Byte, grayscaleFirst b ≠ 0x00#8 ∧ grayscaleSecond b ≠ 0x00#8 ∧ rgbHigh b ≠ 0x00#8 ∧ rgbLow b ≠ 0x00#8) ∧
  ∀ (i : Instr) (s t : State), BlockInv s → i = .slot ∨ i = .drainStep ∨ i = .directStep →
    exec i s = .next t → ∃ w, t.wire = s.wire ++ w ∧ ∀ v ∈ w, v ≠ 0x00#8

/-- R90: the marks of the grayscale encoders and the parity of the RGB565 encoders, and what they say of a line. -/
def Obligations.EncoderMarksAndParity : Prop :=
  (∀ b : Byte,
    grayscaleFirst b &&& 0x01#8 = 0#8 ∧ grayscaleSecond b &&& 0x01#8 = 1#8 ∧
    popcount (rgbHigh b &&& 0b00101000#8) = 1 ∧
    (popcount (rgbLow b &&& 0b00101000#8) = 0 ∨ popcount (rgbLow b &&& 0b00101000#8) = 2)) ∧
  ∀ (c : Cfg) (i : Nat) (b : Byte), legal c = true →
    (c.pixfmt = 0x2#4 → (encodedAt c i b).getLsbD 0 = (i % 2 == 1)) ∧
    (c.pixfmt = 0x1#4 →
      ((encodedAt c i b).getLsbD 5 != (encodedAt c i b).getLsbD 3) = (i % 2 == 0))

/-- R91: a second pass of the encoder leaves an encoded byte as it is. -/
def Obligations.EncodersAreIdempotent : Prop :=
  ∀ (s : State) (b : Byte), appliedEncoder s (appliedEncoder s b) = appliedEncoder s b ∧
    grayscaleFirst (grayscaleFirst b) = grayscaleFirst b ∧
    grayscaleSecond (grayscaleSecond b) = grayscaleSecond b ∧
    rgbHigh (rgbHigh b) = rgbHigh b ∧ rgbLow (rgbLow b) = rgbLow b

/-- R92: which bits the encoding costs, and how many outputs are left. -/
def Obligations.EncoderCost : Prop :=
  (∀ (b : Byte) (k : Nat), k < 8 →
    (rgbHigh b).getLsbD k = (if k = 3 then !b.getLsbD 5 else b.getLsbD k) ∧
    (rgbLow b).getLsbD k = (if k = 5 then b.getLsbD 3 else if k = 0 then true else b.getLsbD k) ∧
    (grayscaleSecond b).getLsbD k = (if k = 0 then true else b.getLsbD k) ∧
    (grayscaleFirst b).getLsbD k =
      (if k = 0 then false else if k = 1 then b.getLsbD 1 || decide (b.toNat ≤ 1) else b.getLsbD k)) ∧
  ((List.range 256).map fun n => grayscaleFirst (BitVec.ofNat 8 n)).eraseDups.length = 127 ∧
  ((List.range 256).map fun n => grayscaleSecond (BitVec.ofNat 8 n)).eraseDups.length = 128 ∧
  ((List.range 256).map fun n => rgbHigh (BitVec.ofNat 8 n)).eraseDups.length = 128 ∧
  ((List.range 256).map fun n => rgbLow (BitVec.ofNat 8 n)).eraseDups.length = 64

/-! ### Encodings (30_encoding.md) -/

/-- Decode and encode agree: decoding the code of a well-formed operation gives the operation back, every operand at
every value; and every code the decoder accepts is the code of the operation it reads, a well-formed one: no bit is
dropped and no word has two meanings. -/
def Obligations.DecodeEncodeRoundTrip : Prop :=
  (∀ i : Instr, i.wellFormed = true → decode (encode i) = .ok i) ∧
  ∀ (c : Code) (i : Instr), decode c = .ok i → encode i = c ∧ i.wellFormed = true

/-- Words written out from the opcode map (R65), the capture port (R68), the strobe (R69), ENCSEL (R71) and the wire's
command types (R75) decode to the operations they stand for; the words of PRINT "OK" and of a LINE of two bytes (R81). -/
def Obligations.OpcodeMapWords : Prop :=
  decode (.ctrl24 0x000000#24) = .ok .nop ∧
  decode (.ctrl24 0x100000#24) = .ok .newframe ∧
  decode (.ctrl24 0x20014B#24) = .ok (.textwr 0x01#8 0x4B#8) ∧
  decode (.ctrl24 0x20FE41#24) = .ok (.textwr 0xFE#8 0x41#8) ∧
  decode (.ctrl24 0x300002#24) = .ok (.debug 0x02#8) ∧
  decode (.ctrl24 0x3000FF#24) = .ok (.debug 0xFF#8) ∧
  decode (.ctrl24 0x400000#24) = .ok .linestart ∧
  decode (.ctrl24 0x500000#24) = .ok .lineend ∧
  decode (.cap8 0x3C#8) = .ok (.capture 0x3C#8) ∧
  decode (.strobe 1#1) = .ok .slot ∧
  decode (.encsel 0b11#2 0x08#8) = .ok (.rgbLow 0x08#8) ∧
  decode (.wire 0x11#8 0#8) = .ok .wireNewframe ∧
  decode (.wire 0x13#8 2#8) = .ok (.wireDebug 2#8) ∧
  (expandPrint [0x4F#8, 0x4B#8]).map encode = [.ctrl24 0x20004F#24, .ctrl24 0x20014B#24, .ctrl24 0x300002#24] ∧
  (expandPrint []).map encode = [.ctrl24 0x300000#24] ∧
  (expandLine [0x00#8, 0xFF#8]).map encode =
    [.ctrl24 0x400000#24, .cap8 0x00#8, .cap8 0xFF#8, .ctrl24 0x500000#24]

/-- R67: the illegal control words, and that each raises `Fault(F_ILLEGAL)` instead of being performed; every other
word is performed. -/
def Obligations.IllegalControlWordsFault : Prop :=
  ∀ (opc rsv : BitVec 4) (a b : Byte) (s : State), s.fault = 0#4 →
    (6 ≤ opc.toNat ∨ rsv ≠ 0#4 ∨
        ((opc = 0#4 ∨ opc = 1#4 ∨ opc = 4#4 ∨ opc = 5#4) ∧ (a ≠ 0#8 ∨ b ≠ 0#8)) ∨ (opc = 3#4 ∧ a ≠ 0#8) →
      runCode (.ctrl24 (opc ++ rsv ++ a ++ b)) s = .next { s with fault := 1#4 }) ∧
    (¬ (6 ≤ opc.toNat ∨ rsv ≠ 0#4 ∨
        ((opc = 0#4 ∨ opc = 1#4 ∨ opc = 4#4 ∨ opc = 5#4) ∧ (a ≠ 0#8 ∨ b ≠ 0#8)) ∨ (opc = 3#4 ∧ a ≠ 0#8)) →
      ∃ i, decode (.ctrl24 (opc ++ rsv ++ a ++ b)) = .ok i ∧
        runCode (.ctrl24 (opc ++ rsv ++ a ++ b)) s = exec i s)

/-- R78, R105: unpacking the new-frame payload as a receiver does gives back WIDTH, HEIGHT and PIXFMT, and the frames
of the source build are the ones written there. -/
def Obligations.NewFramePayloadRoundTrip : Prop :=
  (∀ c : Cfg, legal c = true →
    ∃ p1 p2 p3, newFramePayload c = [0x11#8, p1, p2, p3] ∧
      unpackWidth p1 p3 = c.width ∧ unpackHeight p2 p3 = c.height ∧ unpackFormat p3 = c.pixfmt) ∧
  ∀ (s : State), s.cfg.width = 160#10 → s.cfg.height = 120#10 → s.fault = 0#4 → s.state = .idle →
    s.draws = List.replicate 7 .ready →
    (s.cfg.pixfmt = 0x2#4 → ∃ t, runOps (.newframe :: List.replicate 7 .cmdStep) s = .next t ∧
      t.wire = s.wire ++ [0x00#8, 0x04#8, 0x11#8, 0xA0#8, 0x78#8, 0x20#8, 0xE9#8]) ∧
    (s.cfg.pixfmt = 0x1#4 → ∃ t, runOps (.newframe :: List.replicate 7 .cmdStep) s = .next t ∧
      t.wire = s.wire ++ [0x00#8, 0x04#8, 0x11#8, 0xA0#8, 0x78#8, 0x10#8, 0xD9#8])

/-- R72, R73, R74, R96: the wire formats, byte by byte, are what the two WIRE rows yield; nothing else changes. That a lone
WIRE row yields its frame in the model's own field, the absent frame of an empty text and the refusal of 255 bytes are
the model's choices (log entries 9, 17). -/
def Obligations.WireRowsYieldTheirFrames : Prop :=
  (∀ s : State, ∃ p1 p2 p3 : Byte,
    p1.toNat = s.cfg.width.toNat % 256 ∧ p2.toNat = s.cfg.height.toNat % 256 ∧
    p3.toNat = s.cfg.width.toNat / 256 + 4 * (s.cfg.height.toNat / 256) + 16 * s.cfg.pixfmt.toNat ∧
    exec .wireNewframe s = .next { s with
      result := [0x00#8, 0x04#8, 0x11#8, p1, p2, p3, 0x11#8 ^^^ p1 ^^^ p2 ^^^ p3] }) ∧
  ∀ (s : State) (n : Byte),
    (1 ≤ n.toNat → n.toNat ≤ 254 → (∀ i < n.toNat, (readText s i).isSome = true) →
      ∃ t : List Byte, t.length = n.toNat ∧ (∀ i < n.toNat, t[i]? = readText s i) ∧
        exec (.wireDebug n) s = .next { s with
          result := [0x00#8, n + 1#8, 0x13#8] ++ t ++ [t.foldl (· ^^^ ·) 0x13#8] }) ∧
    exec (.wireDebug 0#8) s = .next { s with result := [] } ∧
    exec (.wireDebug 255#8) s = .refused .noSuchFrame

/-! ### The framer (41_framer.md) -/

/-- R95: NEWFRAME. -/
def Obligations.NewframeStartsACommand : Prop :=
  ∀ s : State, s.fault = 0#4 →
    decode (.ctrl24 0x100000#24) = .ok .newframe ∧
    (∀ w : CtlWord, w.extractLsb' 20 4 = 1#4 → w.extractLsb' 0 20 ≠ 0#20 →
      runCode (.ctrl24 w) s = .next { s with fault := 1#4 }) ∧
    (s.state = .idle → exec .newframe s =
      .next { s with ckind := .newFrame, clen := 4#8, cidx := 0#9, chk := 0#8, state := .cmd }) ∧
    (s.state ≠ .idle → exec .newframe s = .next { s with fault := 2#4 }) ∧
    (s.cfg.pixfmt = 0x2#4 → s.cfg.width = 160#10 → s.cfg.height = 120#10 → s.state = .idle →
      s.draws = List.replicate 7 .ready →
      ∃ t, runOps (.newframe :: List.replicate 7 .cmdStep) s = .next t ∧
        t.wire = s.wire ++ [0x00#8, 0x04#8, 0x11#8, 0xA0#8, 0x78#8, 0x20#8, 0xE9#8])

/-- R98: TEXTWR `a, b`; the bytes written persist until another TEXTWR rewrites them (or reset). -/
def Obligations.TextwrWritesTheTextBuffer : Prop :=
  ∀ (a b : Byte) (s : State), s.fault = 0#4 →
    decode (.ctrl24 (0x2#4 ++ 0#4 ++ a ++ b)) = .ok (.textwr a b) ∧
    (∀ rsv : BitVec 4, rsv ≠ 0#4 →
      runCode (.ctrl24 (0x2#4 ++ rsv ++ a ++ b)) s = .next { s with fault := 1#4 }) ∧
    (s.state = .cmd → exec (.textwr a b) s = .next { s with fault := 2#4 }) ∧
    (s.state ≠ .cmd → 253 < a.toNat → exec (.textwr a b) s = .next { s with fault := 5#4 }) ∧
    (s.state ≠ .cmd → a.toNat ≤ 253 → ∃ t, exec (.textwr a b) s = .next t ∧
      t = { s with txt := t.txt, txtv := t.txtv } ∧
      readText t a.toNat = some b ∧ textMarked t a.toNat = true ∧
      ∀ i, i ≠ a.toNat → readText t i = readText s i ∧ textMarked t i = textMarked s i) ∧
    (∀ i t, (∀ x y, i ≠ .textwr x y) → exec i s = .next t → t.txt = s.txt ∧ t.txtv = s.txtv)

/-- R100: DEBUG `n`. -/
def Obligations.DebugStartsACommand : Prop :=
  ∀ (n : Byte) (s : State), s.fault = 0#4 →
    decode (.ctrl24 (0x3#4 ++ 0#4 ++ 0#8 ++ n)) = .ok (.debug n) ∧
    (∀ w : CtlWord, w.extractLsb' 20 4 = 3#4 → w.extractLsb' 8 12 ≠ 0#12 →
      runCode (.ctrl24 w) s = .next { s with fault := 1#4 }) ∧
    (s.state ≠ .idle → exec (.debug n) s = .next { s with fault := 2#4 }) ∧
    (s.state = .idle → n = 0#8 → exec (.debug n) s = .next s) ∧
    (s.state = .idle → n = 255#8 → exec (.debug n) s = .next { s with fault := 6#4 }) ∧
    (s.state = .idle → n ≠ 0#8 → n ≠ 255#8 → (∃ i, i < n.toNat ∧ textMarked s i = false) →
      exec (.debug n) s = .next { s with fault := 7#4 }) ∧
    (s.state = .idle → n ≠ 0#8 → n ≠ 255#8 → (∀ i, i < n.toNat → textMarked s i = true) →
      exec (.debug n) s =
          .next { s with ckind := .debug, clen := n + 1#8, cidx := 0#9, chk := 0#8, state := .cmd } ∧
        (n + 1#8).toNat = n.toNat + 1) ∧
    (s.state = .idle → s.draws = List.replicate 6 .ready →
      ∃ t, runOps ([.textwr 0#8 0x4F#8, .textwr 1#8 0x4B#8, .debug 2#8] ++ List.replicate 6 .cmdStep) s = .next t ∧
        t.wire = s.wire ++ [0x00#8, 0x03#8, 0x13#8, 0x4F#8, 0x4B#8, 0x17#8])

/-- R102: CMD_STEP, from every state of a command that meets the invariant: which byte it hands off and what it leaves,
what it does where the sink is not ready, that it is not taken where it is not enabled; `chk` keeps its value until the
next command clears it; and the example. -/
def Obligations.CmdStepEmitsTheNextByte : Prop :=
  (∀ s : State, ¬ (s.fault = 0#4 ∧ s.state = .cmd) → exec .cmdStep s = .next s) ∧
  (∀ s : State, BlockInv s → s.fault = 0#4 → s.state = .cmd →
    ∃ v : Byte,
      (s.cidx = 0#9 → v = 0x00#8) ∧
      (s.cidx = 1#9 → v = s.clen) ∧
      (2 ≤ s.cidx.toNat → s.cidx.toNat ≤ s.clen.toNat + 1 → (commandPayload s)[s.cidx.toNat - 2]? = some v) ∧
      (s.cidx.toNat = s.clen.toNat + 2 → v = s.chk) ∧
      (ready s = false →
        exec .cmdStep s = .next { s with draws := s.draws.tail, drawCount := s.drawCount + 1 }) ∧
      (ready s = true → exec .cmdStep s = .next { s with
        draws := s.draws.tail
        drawCount := s.drawCount + 1
        wire := s.wire ++ [v]
        txd := v
        req := !s.req
        chk := if 2 ≤ s.cidx.toNat ∧ s.cidx.toNat ≤ s.clen.toNat + 1 then s.chk ^^^ v else s.chk
        cidx := if s.cidx.toNat = s.clen.toNat + 2 then 0#9 else s.cidx + 1#9
        state := if s.cidx.toNat = s.clen.toNat + 2 then .idle else .cmd })) ∧
  (∀ s : State, s.cfg.pixfmt = 0x1#4 → s.cfg.width = 160#10 → s.cfg.height = 120#10 → s.fault = 0#4 →
    s.state = .idle → s.draws = List.replicate 7 .ready →
    ∀ k x, (k, x) ∈ [(3, 0x11#8), (4, 0xB1#8), (5, 0xC9#8), (6, 0xD9#8), (7, 0xD9#8)] →
      ∃ t, runOps (.newframe :: List.replicate k .cmdStep) s = .next t ∧ t.chk = x ∧
        t.wire = s.wire ++ [0x00#8, 0x04#8, 0x11#8, 0xA0#8, 0x78#8, 0x10#8, 0xD9#8].take k) ∧
  (∀ (i : Instr) (s t : State), exec i s = .next t → i ≠ .cmdStep → t.chk ≠ s.chk →
    (i = .newframe ∨ ∃ n, i = .debug n) ∧ t.chk = 0#8)

/-- R104: where CMD_STEP hands off the last byte of a frame, that byte is the XOR of the payload, the command-type byte
included. -/
def Obligations.ChecksumClosesTheFrame : Prop :=
  ∀ s t : State, BlockInv s → s.fault = 0#4 → s.state = .cmd → s.cidx.toNat = s.clen.toNat + 2 → ready s = true →
    exec .cmdStep s = .next t →
    t.wire = s.wire ++ [xorAll (commandPayload s)] ∧ t.state = .idle ∧
    ((commandPayload s).head? = some 0x11#8 ∨ (commandPayload s).head? = some 0x13#8)

/-- R106: while a command is emitted, only CMD_STEP adds to the wire, and no other command and no line can start. -/
def Obligations.CommandFrameIsContiguous : Prop :=
  ∀ (i : Instr) (s t : State), s.state = .cmd → i ≠ .cmdStep → exec i s = .next t →
    t.wire = s.wire ∧ t.state = .cmd ∧ t.cidx = s.cidx ∧ t.clen = s.clen ∧ t.ckind = s.ckind ∧ t.chk = s.chk ∧
      t.txt = s.txt

/-! ### The scheduler (42_scheduler.md) -/

/-- R110, R111: NOP has no effect, in any state; a NOP word with any nonzero bit in 19:0 is illegal. -/
def Obligations.NopHasNoEffect : Prop :=
  ∀ s : State, decode (.ctrl24 0x000000#24) = .ok .nop ∧ exec .nop s = .next s ∧
    (s.fault = 0#4 → ∀ w : CtlWord, w.extractLsb' 20 4 = 0#4 → w.extractLsb' 0 20 ≠ 0#20 →
      runCode (.ctrl24 w) s = .next { s with fault := 1#4 })

/-- R112: LINESTART. -/
def Obligations.LinestartOpensALine : Prop :=
  ∀ s : State, s.fault = 0#4 →
    decode (.ctrl24 0x400000#24) = .ok .linestart ∧
    (∀ w : CtlWord, w.extractLsb' 20 4 = 4#4 → w.extractLsb' 0 20 ≠ 0#20 →
      runCode (.ctrl24 w) s = .next { s with fault := 1#4 }) ∧
    (s.state = .idle → exec .linestart s =
      .next { s with wr := 0#11, cursor := 0#11, formatted := false, highByteNext := true, state := .line }) ∧
    (s.state ≠ .idle → exec .linestart s = .next { s with fault := 2#4 })

/-- R113: CAPTURE `b`. -/
def Obligations.CapturePushesAByte : Prop :=
  ∀ (b : Byte) (s : State), s.fault = 0#4 →
    decode (.cap8 b) = .ok (.capture b) ∧
    (s.state ≠ .line → exec (.capture b) s = .next { s with fault := 2#4 }) ∧
    (s.state = .line → s.wr = lineBytes s.cfg → exec (.capture b) s = .next { s with fault := 3#4 }) ∧
    (s.state = .line → s.wr ≠ lineBytes s.cfg → s.cfg.mode = .direct → s.cursor < s.wr →
      exec (.capture b) s = .next { s with fault := 8#4 }) ∧
    (s.state = .line → s.wr.toNat < (lineBytes s.cfg).toNat → (s.cfg.mode = .direct → ¬ s.cursor < s.wr) →
      ∃ t, exec (.capture b) s = .next t ∧ t = { s with lb := t.lb, wr := t.wr } ∧
        t.wr.toNat = s.wr.toNat + 1 ∧ readLine t s.wr = some b ∧
        ∀ a, a ≠ s.wr.toNat → t.lb.read a = s.lb.read a)

/-- R115: LINEEND. -/
def Obligations.LineendClosesTheLine : Prop :=
  ∀ s : State, s.fault = 0#4 →
    decode (.ctrl24 0x500000#24) = .ok .lineend ∧
    (∀ w : CtlWord, w.extractLsb' 20 4 = 5#4 → w.extractLsb' 0 20 ≠ 0#20 →
      runCode (.ctrl24 w) s = .next { s with fault := 1#4 }) ∧
    (s.state ≠ .line → exec .lineend s = .next { s with fault := 2#4 }) ∧
    (s.state = .line → s.wr ≠ lineBytes s.cfg → exec .lineend s = .next { s with fault := 4#4 }) ∧
    (s.state = .line → s.wr = lineBytes s.cfg → s.cursor = s.wr →
      exec .lineend s = .next { s with state := .idle }) ∧
    (s.state = .line → s.wr = lineBytes s.cfg → s.cursor ≠ s.wr →
      exec .lineend s = .next { s with state := .drain })

/-- R116, R117, R118, R119: SLOT: the no-op cases, FORMAT, and SEND with its draw. -/
def Obligations.SlotTakesOneSubstep : Prop :=
  ∀ s : State, s.fault = 0#4 →
    (s.state ≠ .line ∨ s.cfg.mode = .direct ∨ s.cursor = s.wr → exec .slot s = .next s) ∧
    (∀ v, s.state = .line → s.cfg.mode = .buffered → s.cursor < s.wr → s.wr.toNat ≤ (lineBytes s.cfg).toNat →
      s.lb.read s.cursor.toNat = some v →
      (s.formatted = false → ∃ t, exec .slot s = .next t ∧ t = { s with lb := t.lb, formatted := true } ∧
        t.lb.read s.cursor.toNat = some (appliedEncoder s v) ∧
        ∀ a, a ≠ s.cursor.toNat → t.lb.read a = s.lb.read a) ∧
      (s.formatted = true → ready s = true → exec .slot s = .next { s with
        draws := s.draws.tail
        drawCount := s.drawCount + 1
        wire := s.wire ++ [v]
        txd := v
        req := !s.req
        cursor := s.cursor + 1#11
        formatted := false
        highByteNext := !s.highByteNext }) ∧
      (s.formatted = true → ready s = false →
        exec .slot s = .next { s with draws := s.draws.tail, drawCount := s.drawCount + 1 }))

/-- R116, R117, R124: DRAIN_STEP: FORMAT, SEND, the end of the line, the blocked case, and that it is not taken where it
is not enabled. -/
def Obligations.DrainStepTakesOneSubstep : Prop :=
  ∀ s : State,
    (¬ (s.fault = 0#4 ∧ s.state = .drain ∧ s.cfg.mode = .buffered) → exec .drainStep s = .next s) ∧
    (∀ v, s.fault = 0#4 → s.state = .drain → s.cfg.mode = .buffered → s.cursor < s.wr →
      s.wr.toNat ≤ (lineBytes s.cfg).toNat → s.lb.read s.cursor.toNat = some v →
      (s.formatted = false → ∃ t, exec .drainStep s = .next t ∧ t = { s with lb := t.lb, formatted := true } ∧
        t.lb.read s.cursor.toNat = some (appliedEncoder s v) ∧
        ∀ a, a ≠ s.cursor.toNat → t.lb.read a = s.lb.read a) ∧
      (s.formatted = true → ready s = true → exec .drainStep s = .next { s with
        draws := s.draws.tail
        drawCount := s.drawCount + 1
        wire := s.wire ++ [v]
        txd := v
        req := !s.req
        cursor := s.cursor + 1#11
        formatted := false
        highByteNext := !s.highByteNext
        state := if s.cursor.toNat + 1 = s.wr.toNat then .idle else .drain }) ∧
      (s.formatted = true → ready s = false →
        exec .drainStep s = .next { s with draws := s.draws.tail, drawCount := s.drawCount + 1 }))

/-- R126: DIRECT_STEP: format and send one captured byte, the blocked case, and that it is not taken where it is not
enabled. -/
def Obligations.DirectStepFormatsAndSends : Prop :=
  ∀ s : State,
    (¬ (s.fault = 0#4 ∧ s.cfg.mode = .direct ∧ (s.state = .line ∨ s.state = .drain) ∧ s.cursor < s.wr) →
      exec .directStep s = .next s) ∧
    (∀ v, s.fault = 0#4 → s.cfg.mode = .direct → (s.state = .line ∨ s.state = .drain) → s.cursor < s.wr →
      s.wr.toNat ≤ (lineBytes s.cfg).toNat → s.lb.read s.cursor.toNat = some v →
      (ready s = true → ∃ t, exec .directStep s = .next t ∧ t = { s with
          lb := t.lb
          draws := s.draws.tail
          drawCount := s.drawCount + 1
          wire := s.wire ++ [appliedEncoder s v]
          txd := appliedEncoder s v
          req := !s.req
          cursor := s.cursor + 1#11
          highByteNext := !s.highByteNext
          state := if s.state = .drain ∧ s.cursor.toNat + 1 = s.wr.toNat then .idle else s.state } ∧
        t.lb.read s.cursor.toNat = some (appliedEncoder s v) ∧
        ∀ a, a ≠ s.cursor.toNat → t.lb.read a = s.lb.read a) ∧
      (ready s = false →
        exec .directStep s = .next { s with draws := s.draws.tail, drawCount := s.drawCount + 1 }))

/-- R109: in every state the table marks "fault" the operation raises `F_PROTOCOL`; where it says "yes" it does not;
SLOT never faults. -/
def Obligations.StateTable : Prop :=
  ∀ s : State, s.fault = 0#4 →
    (∀ i, i = .newframe ∨ (∃ n, i = .debug n) ∨ i = .linestart →
      (s.state ≠ .idle → exec i s = .next { s with fault := 2#4 }) ∧
      (s.state = .idle → ∀ t, exec i s = .next t → t.fault ≠ 2#4)) ∧
    (∀ i, (∃ b, i = .capture b) ∨ i = .lineend →
      (s.state ≠ .line → exec i s = .next { s with fault := 2#4 }) ∧
      (s.state = .line → ∀ t, exec i s = .next t → t.fault ≠ 2#4)) ∧
    (∀ a b, (s.state = .cmd → exec (.textwr a b) s = .next { s with fault := 2#4 }) ∧
      (s.state ≠ .cmd → ∀ t, exec (.textwr a b) s = .next t → t.fault ≠ 2#4)) ∧
    (∀ t, exec .nop s = .next t → t.fault = 0#4) ∧
    (∀ t, exec .slot s = .next t → t.fault = 0#4) ∧
    (s.state ≠ .line → exec .slot s = .next s)

/-- R22: the legal transitions of `state`, and which operation makes each. -/
def Obligations.LegalTransitions : Prop :=
  ∀ (i : Instr) (s t : State), exec i s = .next t → t.state ≠ s.state →
    (s.state = .idle ∧ t.state = .cmd ∧ (i = .newframe ∨ ∃ n, n ≠ 0#8 ∧ i = .debug n)) ∨
    (s.state = .cmd ∧ t.state = .idle ∧ i = .cmdStep) ∨
    (s.state = .idle ∧ t.state = .line ∧ i = .linestart) ∨
    (s.state = .line ∧ t.state = .drain ∧ i = .lineend) ∨
    (s.state = .line ∧ t.state = .idle ∧ i = .lineend ∧ s.cursor = s.wr) ∨
    (s.state = .drain ∧ t.state = .idle ∧ (i = .drainStep ∨ i = .directStep))

/-- R130: which internal step is enabled, and that it is taken in every cycle in which it is; an internal step that
does anything at all is the enabled one. -/
def Obligations.AtMostOneInternalStep : Prop :=
  ∀ s : State,
    (enabledStep s = some .cmdStep ↔ s.fault = 0#4 ∧ s.state = .cmd) ∧
    (enabledStep s = some .drainStep ↔ s.fault = 0#4 ∧ s.state = .drain ∧ s.cfg.mode = .buffered) ∧
    (enabledStep s = some .directStep ↔
      s.fault = 0#4 ∧ s.cfg.mode = .direct ∧ (s.state = .line ∨ s.state = .drain) ∧ s.cursor < s.wr) ∧
    (∀ i, enabledStep s = some i → i = .cmdStep ∨ i = .drainStep ∨ i = .directStep) ∧
    (∀ i, i = .cmdStep ∨ i = .drainStep ∨ i = .directStep → exec i s ≠ .next s → enabledStep s = some i) ∧
    (∀ p i, enabledStep s = some i → runCycle p s =
      andThen (exec i s) fun u => andThen (secondOfCycle p u) fun v => .next (pclkEdge v))

/-- R139: while the sink is not ready, the enabled internal step that would send leaves the whole block as it is (only
the draw is used up): there is no timeout. R183: a run in which the sink is never again ready stays for ever where it
waits, or faulted; it emits nothing more and never ends well, whatever its other moves, short of a reset. Runs, and
what ends one, are the model's (log entries 2, 21). -/
def Obligations.StalledSinkHoldsTheBlock : Prop :=
  (∀ (s : State) (i : Instr), BlockInv s → enabledStep s = some i → ready s = false →
    (i = .drainStep → s.formatted = true) →
    exec i s = .next { s with draws := s.draws.tail, drawCount := s.drawCount + 1 } ∧ waitsForSink s = true) ∧
  ∀ (r : Nat → State) (n : Nat), IsRun r → BlockInv (r n) → waitsForSink (r n) = true → NoResetFrom r n →
    (∀ m ≥ n, attemptsSend (r m) = true → ready (r m) = false) →
    (¬ ∃ out, EndsWellWith r out) ∧
    ∀ m ≥ n, (r m).wire = (r n).wire ∧ endedWell (r m) = false ∧ ((r m).fault ≠ 0#4 ∨ waitsForSink (r m) = true)

/-- R121, R134: a run that starts and ends in `IDLE` with no fault has taken at least two scheduler sub-steps for each
captured byte in BUFFERED mode, and at least one DIRECT_STEP for each in DIRECT mode. -/
def Obligations.SubstepsPerByte : Prop :=
  ∀ (is : List Instr) (s t : State), BlockInv s → s.state = .idle → runOps is s = .next t → t.state = .idle →
    t.fault = 0#4 →
    (s.cfg.mode = .buffered →
      2 * (capturedBytes is).length ≤ is.countP fun i => i == .slot || i == .drainStep) ∧
    (s.cfg.mode = .direct → (capturedBytes is).length ≤ is.countP fun i => i == .directStep)

/-! ### Faults (60_exceptions.md) -/

/-- R143, R144: fault entry is precise: an operation, a control word (the illegal ones too) or a collision of a control
word and a capture that changes `fault` writes nothing else, was performed by a block that had no fault, and leaves a
cause of R140. -/
def Obligations.FaultEntryIsPrecise : Prop :=
  ∀ (s t : State), t.fault ≠ s.fault →
    (∃ i, exec i s = .next t) ∨ (∃ w, runCode (.ctrl24 w) s = .next t) ∨ collision s = .next t →
    s.fault = 0#4 ∧ t = { s with fault := t.fault } ∧ 1 ≤ t.fault.toNat ∧ t.fault.toNat ≤ 8

/-- R145: the faulted condition: no internal step is enabled; every control word, capture and slot is ignored, whatever
its bits; a whole cycle changes nothing but the synchroniser; a hand-off under way completes in the sink's domain; the
run has not ended well. -/
def Obligations.FaultedBlockIgnoresEverything : Prop :=
  ∀ s : State, s.fault ≠ 0#4 →
    enabledStep s = none ∧
    (∀ i, isOperation i = true → exec i s = .next s) ∧
    (∀ w, runCode (.ctrl24 w) s = .next s) ∧ (∀ b, runCode (.cap8 b) s = .next s) ∧
    (∀ x, runCode (.strobe x) s = .next s) ∧
    (∀ p, runCycle p s = .next { s with ackSync := shiftIn s.ack s.ackSync }) ∧
    (reqS s ≠ s.ack → (sclkEdge true s).taken = s.taken ++ [s.txd] ∧ (sclkEdge true s).ack = !s.ack) ∧
    endedWell s = false

/-- R24: `fault` is written only while it is 0, with a cause of R140; once nonzero it is never changed except by reset,
which sets it to 0. -/
def Obligations.FaultIsStickyUntilReset : Prop :=
  ∀ s t : State, step s = .next t →
    (s.fault ≠ 0#4 → s.inputs.head? ≠ some (.reset true true) → t.fault = s.fault) ∧
    (s.fault = 0#4 → t.fault.toNat ≤ 8) ∧
    (s.inputs.head? = some (.reset true true) → t.fault = 0#4)

/-- R70, R141: the order in which causes are raised: the collision first, whatever the word; then an illegal word, in
every state; then the state, whatever the operands and the contents; then the operands; then the contents. -/
def Obligations.FaultPriority : Prop :=
  (∀ (p : PortSample) (w : CtlWord) (b : Byte) (s u : State), p.ctl = some w → p.cap = some b →
    firstOfCycle p.slot s = .next u → u.fault = 0#4 →
    runCycle p s = .next (pclkEdge { u with fault := 2#4 })) ∧
  (∀ (w : CtlWord) (e : DecodeError) (s : State), decode (.ctrl24 w) = .error e → s.fault = 0#4 →
    runCode (.ctrl24 w) s = .next { s with fault := 1#4 }) ∧
  (∀ (s : State), s.fault = 0#4 →
    (∀ a b, s.state = .cmd → exec (.textwr a b) s = .next { s with fault := 2#4 }) ∧
    (∀ n, s.state ≠ .idle → exec (.debug n) s = .next { s with fault := 2#4 }) ∧
    (∀ b, s.state ≠ .line → exec (.capture b) s = .next { s with fault := 2#4 }) ∧
    (s.state ≠ .line → exec .lineend s = .next { s with fault := 2#4 })) ∧
  (∀ (s : State), s.fault = 0#4 → s.state = .idle → textMarked s 0 = false →
    exec (.debug 255#8) s = .next { s with fault := 6#4 }) ∧
  (∀ (b : Byte) (s : State), s.fault = 0#4 → s.state = .line → s.wr = lineBytes s.cfg → s.cfg.mode = .direct →
    s.cursor < s.wr → exec (.capture b) s = .next { s with fault := 3#4 })

/-- R142, R173: in one cycle the internal step or the slot comes first and the control word or capture sees what it
left: a DIRECT_STEP that sends frees the buffer for the capture of the same cycle; a capture that faults leaves the
byte sent before it on the wire. -/
def Obligations.OrderInsideACycle : Prop :=
  (∀ (p : PortSample) (s : State),
    (∀ i, enabledStep s = some i → runCycle p s =
      andThen (exec i s) fun u => andThen (secondOfCycle p u) fun v => .next (pclkEdge v)) ∧
    (enabledStep s = none → p.slot = true → runCycle p s =
      andThen (exec .slot s) fun u => andThen (secondOfCycle p u) fun v => .next (pclkEdge v)) ∧
    (enabledStep s = none → p.slot = false → runCycle p s =
      andThen (secondOfCycle p s) fun v => .next (pclkEdge v))) ∧
  (∀ (b : Byte) (s : State), BlockInv s → s.fault = 0#4 → s.state = .line → s.cfg.mode = .direct →
    s.cursor < s.wr → s.wr ≠ lineBytes s.cfg → ready s = true →
    ∃ t v, s.lb.read s.cursor.toNat = some v ∧ runCycle { ctl := none, cap := some b, slot := false } s = .next t ∧
      t.fault = 0#4 ∧ t.wire = s.wire ++ [appliedEncoder s v] ∧ t.cursor = s.wr ∧ t.wr.toNat = s.wr.toNat + 1 ∧
      readLine t s.wr = some b) ∧
  (∀ (b : Byte) (s : State), BlockInv s → s.fault = 0#4 → s.state = .cmd → ready s = true →
    ∃ t v, runCycle { ctl := none, cap := some b, slot := false } s = .next t ∧ t.fault = 2#4 ∧
      t.wire = s.wire ++ [v] ∧ (frameOf (commandPayload s))[s.cidx.toNat]? = some v)

/-! ### Reset and the instance (70_reset_and_hazards.md, 00_scope.md) -/

/-- R165: what reset establishes, at the start of a run and by the reset event. The value of `txd`, the model's own
fields and the instance of `State.reset` are the model's choices (log entries 2, 4, 6) and are not stated. -/
def Obligations.ResetEstablishes : Prop :=
  ∀ s t : State, (s = State.reset ∧ t = State.reset) ∨ runEvent (.reset true true) s = .next t →
    t.state = .idle ∧ t.fault = 0#4 ∧ t.wr = 0#11 ∧ t.cursor = 0#11 ∧ t.formatted = false ∧
    t.highByteNext = true ∧ t.ckind = .newFrame ∧ t.clen = 0#8 ∧ t.cidx = 0#9 ∧ t.chk = 0#8 ∧
    (∀ i, textMarked t i = false) ∧ t.req = false ∧ (∀ x ∈ t.ackSync, x = false) ∧
    (∀ i, t.lb.read i = none) ∧ (∀ i, readText t i = none) ∧ t.cfg = s.cfg ∧ State.reset.wire = []

/-- R166, R167: reset of both domains sets the SCLK side too, abandons the line or command, and keeps what is on the
wire; a reset that one domain alone sees, the other's not being asserted or PCLK being stopped, is refused
(93_implementation_defined.md; log entries 13, 20). -/
def Obligations.ResetOfBothDomains : Prop :=
  ∀ s : State,
    (s.pclkRuns = true → ∃ t, runEvent (.reset true true) s = .next t ∧ t.ack = false ∧ (∀ x ∈ t.reqSync, x = false) ∧
      t.ackSync.length = s.cfg.syncStages ∧ t.reqSync.length = s.cfg.syncStages ∧
      t.wire = s.wire ∧ owed t = []) ∧
    runEvent (.reset true false) s = .refused .singleDomainReset ∧
    runEvent (.reset false true) s = .refused .singleDomainReset ∧
    (s.pclkRuns = false → runEvent (.reset true true) s = .refused .singleDomainReset)

/-- R151, R162, R183: while PCLK is stopped the block stops with it. A move that needs a PCLK cycle does nothing, and with
no move listed the machine stands still; the SCLK domain goes on; no step changes PCLK-domain state; and a run with PCLK
stopped from some point on keeps that state, the wire output included, for ever. That the environment's hold on the
clock stands in a field of State is the model's choice (log entry 20). -/
def Obligations.StoppedPclkFreezesTheBlock : Prop :=
  (∀ s : State, legal s.cfg = true → s.pclkRuns = false →
    (s.inputs = [] → step s = .next s) ∧
    (∀ e l, s.inputs = e :: l → needsPclk e = true → step s = .next { s with inputs := l }) ∧
    (∀ a l, s.inputs = .sclk a :: l → step s = .next (sclkEdge a { s with inputs := l })) ∧
    (∀ b l, s.inputs = .pclk b :: l → step s = .next { s with inputs := l, pclkRuns := b })) ∧
  (∀ s t : State, s.pclkRuns = false → step s = .next t →
    t = { s with inputs := t.inputs, pclkRuns := t.pclkRuns, ack := t.ack, reqSync := t.reqSync, taken := t.taken,
                 result := t.result }) ∧
  ∀ (r : Nat → State) (n : Nat), IsRun r → (∀ m ≥ n, (r m).pclkRuns = false) →
    ∀ m ≥ n, r m = { r n with
      inputs := (r m).inputs, draws := (r m).draws, ack := (r m).ack, reqSync := (r m).reqSync
      taken := (r m).taken, result := (r m).result }

/-- R9, R10, R41: the legal instances, the synchronisers' two stages among the conditions; R11: LINE_BYTES of the legal
ones. That it is every step of another instance that refuses it is the model's choice (log entry 7). -/
def Obligations.IllegalInstanceIsRefused : Prop :=
  (∀ c : Cfg, legal c = true ↔ (c.pixfmt = 0x1#4 ∨ c.pixfmt = 0x2#4) ∧ 1 ≤ c.width.toNat ∧ 1 ≤ c.height.toNat ∧
    (c.pixfmt = 0x2#4 → c.width.toNat % 2 = 0) ∧ 2 ≤ c.syncStages) ∧
  (∀ s : State, legal s.cfg = false → step s = .refused .illegalInstance) ∧
  (∀ c : Cfg, legal c = true →
    (lineBytes c).toNat = (if c.pixfmt = 0x2#4 then c.width.toNat else 2 * c.width.toNat) ∧
    (lineBytes c).toNat ≤ 2046 ∧ (lineBytes c).toNat % 2 = 0)

/-- R158: the status port shows the state, its numbers, the fault and the line state. -/
def Obligations.StatusPortShowsTheState : Prop :=
  ∀ s : State,
    (statusPort s).stState = (match s.state with | .idle => 0#2 | .cmd => 1#2 | .line => 2#2 | .drain => 3#2) ∧
    (statusPort s).stFault = s.fault ∧ (statusPort s).stWr = s.wr ∧ (statusPort s).stCursor = s.cursor ∧
    (statusPort s).stFormatted = s.formatted ∧ (statusPort s).stHbn = s.highByteNext

/-! ### The invariant of the block -/

/-- The two invariants, of the block and of the hand-off, hold at reset. -/
def Obligations.InvariantsAtReset : Prop := BlockInv State.reset ∧ HandoffInv State.reset

/-- Every step keeps the invariant: R27, R28, R31, R48, R127, R132 (a) to (d), R140 (codes 9 to 15 never raised), the
canonical form of the memories, the framer's position and checksum. -/
def Obligations.BlockInvKeptByEveryStep : Prop :=
  ∀ s t : State, BlockInv s → step s = .next t → BlockInv t

/-- In every state that meets the invariant, every operation of the block, and every whole PCLK cycle, answers a next
state: the model's own stops are out of reach. -/
def Obligations.OperationsNeverStop : Prop :=
  ∀ s : State, BlockInv s →
    (∀ i, isOperation i = true → ∃ t, exec i s = .next t) ∧ ∀ p, ∃ t, runCycle p s = .next t

/-! ### The clock-domain crossing (10_state.md R40 to R42, 60_exceptions.md R152 to R157) -/

/-- R18, R154: every operation leaves the wire output as it is, or appends one byte to it, at an attempt at which
`ready` is true, and hands that byte off: `txd <- v; req <- ~req`. Nothing else changes `txd` or `req`. -/
def Obligations.EmittedBytesAreHandedOff : Prop :=
  ∀ (i : Instr) (s t : State), exec i s = .next t →
    (t.wire = s.wire ∧ t.txd = s.txd ∧ t.req = s.req) ∨
    (∃ v, t.wire = s.wire ++ [v] ∧ t.txd = v ∧ t.req = (!s.req) ∧ ready s = true ∧
      (i = .slot ∨ i = .cmdStep ∨ i = .drainStep ∨ i = .directStep))

/-- R42, R153, R155: the handshake. Where the draw is the crossing's own (log entry 3), `ready` is `ack_p == req`, `ack_p`
the last of `SYNC_STAGES` stages; each PCLK edge moves `ack` one stage on. The sink takes the byte in `txd` and toggles
`ack` in a SCLK cycle in which it sees `req_s != ack` and can accept a byte, and in no other (the record of the bytes
taken is the model's, log entry 14). -/
def Obligations.CrossingHandshake : Prop :=
  (∀ (s : State) (l : List Draw) (x : Bool) (stages : List Bool), s.draws = .crossing :: l →
    s.ackSync = stages ++ [x] →
    ready s = (x == s.req) ∧
    (pclkEdge s).ackSync = s.ack :: stages ∧ (pclkEdge s).ack = s.ack) ∧
  ∀ (s : State) (x : Bool) (stages : List Bool), s.reqSync = stages ++ [x] →
    (x ≠ s.ack → sclkEdge true s =
      { s with taken := s.taken ++ [s.txd], ack := !s.ack, reqSync := s.req :: stages }) ∧
    (x = s.ack → sclkEdge true s = { s with reqSync := s.req :: stages }) ∧
    sclkEdge false s = { s with reqSync := s.req :: stages }

/-- R157: where the send attempts see the hardware's own `ready`, every step but a reset keeps: at most one toggle is
under way, and the bytes emitted are the bytes the sink has taken followed by the one handed off and not yet taken. So
the sink receives every emitted byte once and in order. -/
def Obligations.HandoffInvKeptByEveryStep : Prop :=
  ∀ s t : State, HandoffInv s → s.draws.head? = some .crossing → s.inputs.head? ≠ some (.reset true true) →
    step s = .next t → HandoffInv t

/-! ### The wire output -/

/-- What an operation adds to the wire and to what the wire is still owed is exactly its contribution: the frame of an
accepted command (R73), the encoded value of a captured byte (R131). Slots, internal steps and all other operations
only turn owed bytes into emitted ones, in order. -/
def Obligations.WireIsPaidWhatItIsOwed : Prop :=
  ∀ (i : Instr) (s t : State), BlockInv s → exec i s = .next t → t.fault = 0#4 →
    t.wire ++ owed t = s.wire ++ owed s ++ contribution i s

/-- R59, R106, R137: a run of operations from `IDLE` to `IDLE` with no fault puts on the wire exactly what its control
words and captures call for, in their order, whatever the slots, internal steps and draws. -/
def Obligations.RunOutputIsWhatTheInputsCallFor : Prop :=
  ∀ (is : List Instr) (s t : State), BlockInv s → s.state = .idle → runOps is s = .next t → t.state = .idle →
    t.fault = 0#4 → t.wire = s.wire ++ expectedWire s.cfg s.txt 0 is

/-- R137: the line output theorem: for every order of the steps of one line in which no fault is raised and the line
reaches `IDLE`, the bytes emitted are `e(0), ..., e(LINE_BYTES-1)`. -/
def Obligations.LineOutput : Prop :=
  ∀ (is : List Instr) (s t : State), BlockInv s → s.state = .idle → (∀ i ∈ is, insideLine i = true) →
    runOps (.linestart :: is) s = .next t → t.state = .idle → t.fault = 0#4 →
    (capturedBytes is).length = (lineBytes s.cfg).toNat ∧
    t.wire = s.wire ++ (capturedBytes is).mapIdx (encodedAt s.cfg)

/-- R138: BUFFERED and DIRECT mode, given the same control words and captured bytes with no fault in either, emit the
same wire output. -/
def Obligations.ModesAreEquivalent : Prop :=
  ∀ (is js : List Instr) (s s' t t' : State), BlockInv s → BlockInv s' →
    s.cfg.mode = .buffered → s'.cfg = { s.cfg with mode := .direct } → s'.txt = s.txt →
    s.state = .idle → s'.state = .idle → is.filter isInput = js.filter isInput →
    runOps is s = .next t → runOps js s' = .next t' → t.state = .idle → t'.state = .idle →
    t.fault = 0#4 → t'.fault = 0#4 →
    ∃ w, t.wire = s.wire ++ w ∧ t'.wire = s'.wire ++ w

/-! ### Progress (42_scheduler.md R136, 70_reset_and_hazards.md R177) -/

/-- R136, R102: with a sink that is ready often enough among the listed draws (a finite sufficient form of R177's
fairness, the model's, log entry 2), the drain ends: after as many internal steps as there are draws and unsent bytes the
block is in `IDLE` with the whole line sent; and a command ends: after as many internal steps as there are draws the rest
of its frame is on the wire and the block is in `IDLE`. -/
def Obligations.ListedReadyDrawsEndTheWait : Prop :=
  (∀ s : State, BlockInv s → s.fault = 0#4 → s.state = .drain → fairFor (s.wr.toNat - s.cursor.toNat) s →
    ∀ i, i = (if s.cfg.mode = .buffered then Instr.drainStep else Instr.directStep) →
    ∃ t, runOps (List.replicate (s.draws.length + (s.wr.toNat - s.cursor.toNat)) i) s = .next t ∧
      t.state = .idle ∧ t.fault = 0#4 ∧ t.cursor = t.wr ∧ t.wr = lineBytes t.cfg ∧ t.formatted = false ∧
      t.highByteNext = true ∧ t.wire = s.wire ++ owed s) ∧
  ∀ s : State, BlockInv s → s.fault = 0#4 → s.state = .cmd → fairFor (s.clen.toNat + 3 - s.cidx.toNat) s →
    ∃ t, runOps (List.replicate s.draws.length .cmdStep) s = .next t ∧
      t.state = .idle ∧ t.fault = 0#4 ∧ t.wire = s.wire ++ owed s

/-- R177: in every fair run, whatever kinds of draw it makes, in which PCLK cycles go on, every command and every drain
(and every wait of DIRECT mode) ends: from a point where the block waits for the sink a point is reached where all that
was owed is on the wire, or where the controller has made the block fault; resets apart. Runs and the lists that feed
them are the model's (log entries 1, 2). -/
def Obligations.FairRunsEndEveryWait : Prop :=
  ∀ (r : Nat → State) (n : Nat), IsRun r → FairRun r → (∀ m, ∃ k ≥ m, isWholeCycle (r k) = true) →
    BlockInv (r n) → waitsForSink (r n) = true → NoResetFrom r n →
    ∃ k ≥ n, (r k).fault ≠ 0#4 ∨ ∃ w, (r k).wire = (r n).wire ++ owed (r n) ++ w

/-- R182, R145: an end is for good: whatever the sink, the clocks and the sensor source do after it, the run has ended
well at every later point too, with the same wire output, and a run has one result at most; a run that reaches a fault
never ends well, whatever resets follow. R177, R183, R139: a run that is not fair, or in which PCLK stops, is a hang, and
a hang is not an end of run; and an attempt hands a byte off exactly where the sink is ready at it. Runs, and which moves
are the controller's, are the model's (log entries 2, 21). -/
def Obligations.HangsAreNoEnds : Prop :=
  (∀ (r : Nat → State) (n m : Nat), IsRun r → EndsWellAt r n → n ≤ m →
    EndsWellAt r m ∧ (r m).wire = (r n).wire ∧ endedWell (r m) = true) ∧
  (∀ (r : Nat → State) (out out' : List Byte), IsRun r → EndsWellWith r out → EndsWellWith r out' → out = out') ∧
  (∀ (r : Nat → State) (n : Nat), (r n).fault ≠ 0#4 → ¬ ∃ out, EndsWellWith r out) ∧
  (∀ r : Nat → State, IsRun r → Hangs r → ¬ ∃ out, EndsWellWith r out) ∧
  ∀ s t : State, step s = .next t → attemptsSend s = true →
    t.wire.length = s.wire.length + (if ready s = true then 1 else 0)

/-! ### A step runs the decoded operation -/

/-- A step of a legal instance, PCLK running, takes the environment's next move off the list: a lone code is decoded and
performed; an illegal control word raises F_ILLEGAL where the block has no fault; with no move listed the step is a PCLK
cycle with quiet ports. A combinational row needs no clock. The list of moves and the hold on the clock are the model's
(log entries 1, 20); what a step does with PCLK stopped says StoppedPclkFreezesTheBlock. -/
def Obligations.StepRunsTheDecodedOperation : Prop :=
  (∀ (s : State) (i : Instr) (l : List Event), legal s.cfg = true → i.wellFormed = true → isOperation i = false →
    s.inputs = .op (encode i) :: l → step s = exec i { s with inputs := l }) ∧
  ∀ (s : State), legal s.cfg = true → s.pclkRuns = true →
    (∀ c l i, s.inputs = .op c :: l → decode c = .ok i → step s = exec i { s with inputs := l }) ∧
    (∀ i l, s.inputs = .op (encode i) :: l → i.wellFormed = true → step s = exec i { s with inputs := l }) ∧
    (∀ w l e, s.inputs = .op (.ctrl24 w) :: l → decode (.ctrl24 w) = .error e → s.fault = 0#4 →
      step s = .next { s with inputs := l, fault := 1#4 }) ∧
    (∀ p l, s.inputs = .cycle p :: l → step s = runCycle p { s with inputs := l }) ∧
    (∀ a l, s.inputs = .sclk a :: l → step s = .next (sclkEdge a { s with inputs := l })) ∧
    (s.inputs = [] → step s = runCycle PortSample.quiet s)

/-! ### Frames -/

/-- The frame of the control operations that store to no memory: NOP, NEWFRAME, DEBUG, LINESTART, LINEEND. Each writes
`fault` alone, or only the registers named. -/
def Obligations.ControlOperationsFrame : Prop :=
  ∀ s t : State,
    (exec .nop s = .next t → t = s) ∧
    (∀ i, i = .newframe ∨ (∃ n, i = .debug n) → exec i s = .next t →
      t = { s with fault := t.fault, state := t.state, ckind := t.ckind, clen := t.clen, cidx := t.cidx,
                   chk := t.chk }) ∧
    (exec .linestart s = .next t →
      t = { s with fault := t.fault, state := t.state, wr := t.wr, cursor := t.cursor, formatted := t.formatted,
                   highByteNext := t.highByteNext }) ∧
    (exec .lineend s = .next t → t = { s with fault := t.fault, state := t.state })

/-- The frame of CAPTURE and TEXTWR: the registers they may write, and every byte of LB and TXT but the one stored at
`wr`, at the index operand. -/
def Obligations.MemoryWritersFrame : Prop :=
  ∀ (a b : Byte) (s t : State),
    (exec (.capture b) s = .next t →
      t = { s with fault := t.fault, lb := t.lb, wr := t.wr } ∧
      (∀ i, i ≠ s.wr.toNat → t.lb.read i = s.lb.read i) ∧
      (t.fault ≠ 0#4 → ∀ i, t.lb.read i = s.lb.read i)) ∧
    (exec (.textwr a b) s = .next t →
      t = { s with fault := t.fault, txt := t.txt, txtv := t.txtv } ∧
      (∀ i, i ≠ a.toNat → readText t i = readText s i ∧ textMarked t i = textMarked s i) ∧
      (t.fault ≠ 0#4 → ∀ i, readText t i = readText s i ∧ textMarked t i = textMarked s i))

/-- The frame of SLOT, DRAIN_STEP and DIRECT_STEP: the registers they may write, and every byte of LB but the one at
`cursor`; a SLOT or DRAIN_STEP that finds `formatted = 1` stores nothing. -/
def Obligations.SchedulerStepsFrame : Prop :=
  ∀ (i : Instr) (s t : State), i = .slot ∨ i = .drainStep ∨ i = .directStep → exec i s = .next t →
    t = { s with state := t.state, cursor := t.cursor, formatted := t.formatted, highByteNext := t.highByteNext,
                 lb := t.lb, wire := t.wire, txd := t.txd, req := t.req, draws := t.draws,
                 drawCount := t.drawCount } ∧
    (∀ a, a ≠ s.cursor.toNat → t.lb.read a = s.lb.read a) ∧
    (i ≠ .directStep → s.formatted = true → ∀ a, t.lb.read a = s.lb.read a) ∧
    (i = .slot → t.state = s.state) ∧ (i = .directStep → t.formatted = s.formatted)

/-- The frame of CMD_STEP and of the lone ENCSEL and WIRE rows: CMD_STEP writes the framer's position, the hand-off and
the wire; a lone row touches no state of the block (R83), only the model's own result field. -/
def Obligations.FramerAndCombinationalFrame : Prop :=
  ∀ s t : State,
    (exec .cmdStep s = .next t →
      t = { s with state := t.state, cidx := t.cidx, chk := t.chk, wire := t.wire, txd := t.txd, req := t.req,
                   draws := t.draws, drawCount := t.drawCount }) ∧
    (∀ i, isOperation i = false → exec i s = .next t → t = { s with result := t.result })
end

