-- ==== Sys2Proof/Laws/Memory.lean ====
section
/-! SUPPORT. The laws of the two memories: a read after a write, and the canonical form that every write keeps. -/
namespace Sys2Proof.Machine

theorem Memory.read_nil (a : Nat) : Memory.read [] a = none := rfl

theorem Memory.read_cons (b : Nat) (w : Byte) (m : Memory) (a : Nat) :
    Memory.read ((b, w) :: m) a = if a = b then some w else Memory.read m a := rfl

/-- A write is seen by the next read of that index (20_memory.md R56). -/
theorem Memory.read_write_same (m : Memory) (a : Nat) (v : Byte) : (m.write a v).read a = some v := by
  induction m with
  | nil => simp [Memory.write, Memory.read]
  | cons c m ih =>
    obtain ⟨b, w⟩ := c
    rcases Nat.lt_trichotomy a b with h | h | h
    · simp [Memory.write, Memory.read, h]
    · simp [Memory.write, Memory.read, h]
    · simp [Memory.write, Memory.read, Nat.not_lt_of_gt h, Nat.ne_of_gt h, ih]

/-- A write leaves every other index alone. -/
theorem Memory.read_write_other (m : Memory) {a b : Nat} (v : Byte) (h : b ≠ a) :
    (m.write a v).read b = m.read b := by
  induction m with
  | nil => simp [Memory.write, Memory.read, h]
  | cons c m ih =>
    obtain ⟨d, w⟩ := c
    rcases Nat.lt_trichotomy a d with hd | hd | hd
    · simp [Memory.write, Memory.read, hd, h]
    · subst hd; simp [Memory.write, Memory.read, h]
    · simp [Memory.write, Memory.read, Nat.not_lt_of_gt hd, Nat.ne_of_gt hd, ih]

theorem Memory.read_write (m : Memory) (a b : Nat) (v : Byte) :
    (m.write a v).read b = if b = a then some v else m.read b := by
  by_cases h : b = a
  · subst h; simp [Memory.read_write_same]
  · simp [h, Memory.read_write_other m v h]

/-- The cells of a written memory are the written one and old ones. -/
theorem Memory.mem_write {m : Memory} {a : Nat} {v : Byte} {c : Host.Cell} (h : c ∈ m.write a v) :
    c = (a, v) ∨ c ∈ m := by
  induction m with
  | nil => simpa [Memory.write] using h
  | cons d m ih =>
    obtain ⟨b, w⟩ := d
    simp only [Memory.write] at h
    split at h
    · simpa using h
    · split at h
      · rcases List.mem_cons.1 h with h | h
        · exact .inl h
        · exact .inr (List.mem_cons_of_mem _ h)
      · rcases List.mem_cons.1 h with h | h
        · exact .inr (h ▸ List.mem_cons_self ..)
        · exact (ih h).imp id (List.mem_cons_of_mem _)

theorem Memory.wf_nil : Memory.wf [] := List.Pairwise.nil

theorem Memory.wf_cons {b : Nat} {w : Byte} {m : Memory} :
    Memory.wf ((b, w) :: m) ↔ (∀ c ∈ m, b < c.1) ∧ Memory.wf m := by
  simp [Memory.wf, List.pairwise_cons]

/-- Every write keeps the canonical form. -/
theorem Memory.write_wf {m : Memory} (h : m.wf) (a : Nat) (v : Byte) : (m.write a v).wf := by
  induction m with
  | nil => simp [Memory.write, Memory.wf]
  | cons c m ih =>
    obtain ⟨b, w⟩ := c
    obtain ⟨hb, hm⟩ := Memory.wf_cons.1 h
    rcases Nat.lt_trichotomy a b with hab | hab | hab
    · simp only [Memory.write, hab, if_true]
      refine Memory.wf_cons.2 ⟨fun c hc => ?_, h⟩
      rcases List.mem_cons.1 hc with rfl | hc
      · exact hab
      · exact Nat.lt_trans hab (hb c hc)
    · subst hab
      simp only [Memory.write, Nat.lt_irrefl, if_false, if_true]
      exact Memory.wf_cons.2 ⟨hb, hm⟩
    · simp only [Memory.write, Nat.not_lt_of_gt hab, Nat.ne_of_gt hab, if_false]
      refine Memory.wf_cons.2 ⟨fun c hc => ?_, ih hm⟩
      rcases Memory.mem_write hc with rfl | hc
      · exact hab
      · exact hb c hc

/-- A write below a bound keeps every index below it. -/
theorem Memory.write_inside {m : Memory} {n a : Nat} (h : ∀ c ∈ m, c.1 < n) (ha : a < n) (v : Byte) :
    ∀ c ∈ m.write a v, c.1 < n := fun c hc => by
  rcases Memory.mem_write hc with rfl | hc
  · exact ha
  · exact h c hc

theorem textBytes_zero (m : Memory) : textBytes m 0 = some [] := rfl

theorem textBytes_succ (m : Memory) (n : Nat) :
    textBytes m (n + 1) = (textBytes m n).bind fun t => (m.read n).bind fun v => some (t ++ [v]) := rfl

/-- The text bytes, where they are all written, are as many as asked for, each one the byte at its index. -/
theorem textBytes_spec {m : Memory} {n : Nat} {t : List Byte} (h : textBytes m n = some t) :
    t.length = n ∧ ∀ i < n, m.read i = t[i]? := by
  induction n generalizing t with
  | zero =>
    simp only [textBytes_zero, Option.some.injEq] at h
    subst h
    simp
  | succ n ih =>
    simp only [textBytes_succ, Option.bind_eq_some_iff, Option.some.injEq] at h
    obtain ⟨u, hu, v, hv, rfl⟩ := h
    obtain ⟨hl, hr⟩ := ih hu
    refine ⟨by simp [hl], fun i hi => ?_⟩
    rcases Nat.lt_succ_iff_lt_or_eq.1 hi with hi | rfl
    · rw [hr i hi, List.getElem?_append_left (hl ▸ hi)]
    · rw [hv, ← hl]; simp

/-- The text bytes can be read where every entry below the length has been written. -/
theorem textBytes_isSome {m : Memory} {n : Nat} :
    (textBytes m n).isSome = true ↔ ∀ i < n, (m.read i).isSome = true := by
  induction n with
  | zero => simp [textBytes_zero]
  | succ n ih =>
    rw [textBytes_succ]
    constructor
    · intro h i hi
      obtain ⟨t, ht⟩ := Option.isSome_iff_exists.1 h
      simp only [Option.bind_eq_some_iff, Option.some.injEq] at ht
      obtain ⟨u, hu, v, hv, -⟩ := ht
      rcases Nat.lt_succ_iff_lt_or_eq.1 hi with hi | rfl
      · exact ih.1 (by simp [hu]) i hi
      · simp [hv]
    · intro h
      obtain ⟨u, hu⟩ := Option.isSome_iff_exists.1 (ih.2 fun i hi => h i (Nat.lt_succ_of_lt hi))
      obtain ⟨v, hv⟩ := Option.isSome_iff_exists.1 (h n (Nat.lt_succ_self n))
      simp [hu, hv]

/-- A write at or past the length leaves the text bytes alone. -/
theorem textBytes_write {m : Memory} {n a : Nat} (v : Byte) (h : n ≤ a) :
    textBytes (m.write a v) n = textBytes m n := by
  induction n with
  | zero => rfl
  | succ n ih =>
    rw [textBytes_succ, textBytes_succ, ih (Nat.le_of_succ_le h),
      Memory.read_write_other m v (Nat.ne_of_lt h)]

end Sys2Proof.Machine
end

