-- ==== Sys2Proof/Laws/State.lean ====
section
/-! SUPPORT. For every update of State, one lemma per field: what it writes and what it leaves. -/
namespace Sys2Proof.Machine

variable (s : State)

/-! `setFormatted` -/
@[simp] theorem setFormatted_cfg : (setFormatted s).cfg = s.cfg := rfl
@[simp] theorem setFormatted_state : (setFormatted s).state = s.state := rfl
@[simp] theorem setFormatted_fault : (setFormatted s).fault = s.fault := rfl
@[simp] theorem setFormatted_wr : (setFormatted s).wr = s.wr := rfl
@[simp] theorem setFormatted_cursor : (setFormatted s).cursor = s.cursor := rfl
@[simp] theorem setFormatted_formatted : (setFormatted s).formatted = true := rfl
@[simp] theorem setFormatted_highByteNext : (setFormatted s).highByteNext = s.highByteNext := rfl
@[simp] theorem setFormatted_ckind : (setFormatted s).ckind = s.ckind := rfl
@[simp] theorem setFormatted_clen : (setFormatted s).clen = s.clen := rfl
@[simp] theorem setFormatted_cidx : (setFormatted s).cidx = s.cidx := rfl
@[simp] theorem setFormatted_chk : (setFormatted s).chk = s.chk := rfl
@[simp] theorem setFormatted_lb : (setFormatted s).lb = s.lb := rfl
@[simp] theorem setFormatted_txt : (setFormatted s).txt = s.txt := rfl
@[simp] theorem setFormatted_txtv : (setFormatted s).txtv = s.txtv := rfl
@[simp] theorem setFormatted_txd : (setFormatted s).txd = s.txd := rfl
@[simp] theorem setFormatted_req : (setFormatted s).req = s.req := rfl
@[simp] theorem setFormatted_ack : (setFormatted s).ack = s.ack := rfl
@[simp] theorem setFormatted_ackSync : (setFormatted s).ackSync = s.ackSync := rfl
@[simp] theorem setFormatted_reqSync : (setFormatted s).reqSync = s.reqSync := rfl
@[simp] theorem setFormatted_wire : (setFormatted s).wire = s.wire := rfl
@[simp] theorem setFormatted_taken : (setFormatted s).taken = s.taken := rfl
@[simp] theorem setFormatted_result : (setFormatted s).result = s.result := rfl
@[simp] theorem setFormatted_inputs : (setFormatted s).inputs = s.inputs := rfl
@[simp] theorem setFormatted_draws : (setFormatted s).draws = s.draws := rfl
@[simp] theorem setFormatted_drawCount : (setFormatted s).drawCount = s.drawCount := rfl
@[simp] theorem setFormatted_pclkRuns : (setFormatted s).pclkRuns = s.pclkRuns := rfl

/-! `sentFlags` -/
@[simp] theorem sentFlags_cfg : (sentFlags s).cfg = s.cfg := rfl
@[simp] theorem sentFlags_state : (sentFlags s).state = s.state := rfl
@[simp] theorem sentFlags_fault : (sentFlags s).fault = s.fault := rfl
@[simp] theorem sentFlags_wr : (sentFlags s).wr = s.wr := rfl
@[simp] theorem sentFlags_cursor : (sentFlags s).cursor = s.cursor := rfl
@[simp] theorem sentFlags_formatted : (sentFlags s).formatted = false := rfl
@[simp] theorem sentFlags_highByteNext : (sentFlags s).highByteNext = !s.highByteNext := rfl
@[simp] theorem sentFlags_ckind : (sentFlags s).ckind = s.ckind := rfl
@[simp] theorem sentFlags_clen : (sentFlags s).clen = s.clen := rfl
@[simp] theorem sentFlags_cidx : (sentFlags s).cidx = s.cidx := rfl
@[simp] theorem sentFlags_chk : (sentFlags s).chk = s.chk := rfl
@[simp] theorem sentFlags_lb : (sentFlags s).lb = s.lb := rfl
@[simp] theorem sentFlags_txt : (sentFlags s).txt = s.txt := rfl
@[simp] theorem sentFlags_txtv : (sentFlags s).txtv = s.txtv := rfl
@[simp] theorem sentFlags_txd : (sentFlags s).txd = s.txd := rfl
@[simp] theorem sentFlags_req : (sentFlags s).req = s.req := rfl
@[simp] theorem sentFlags_ack : (sentFlags s).ack = s.ack := rfl
@[simp] theorem sentFlags_ackSync : (sentFlags s).ackSync = s.ackSync := rfl
@[simp] theorem sentFlags_reqSync : (sentFlags s).reqSync = s.reqSync := rfl
@[simp] theorem sentFlags_wire : (sentFlags s).wire = s.wire := rfl
@[simp] theorem sentFlags_taken : (sentFlags s).taken = s.taken := rfl
@[simp] theorem sentFlags_result : (sentFlags s).result = s.result := rfl
@[simp] theorem sentFlags_inputs : (sentFlags s).inputs = s.inputs := rfl
@[simp] theorem sentFlags_draws : (sentFlags s).draws = s.draws := rfl
@[simp] theorem sentFlags_drawCount : (sentFlags s).drawCount = s.drawCount := rfl
@[simp] theorem sentFlags_pclkRuns : (sentFlags s).pclkRuns = s.pclkRuns := rfl

/-! `toggleHighByte` -/
@[simp] theorem toggleHighByte_cfg : (toggleHighByte s).cfg = s.cfg := rfl
@[simp] theorem toggleHighByte_state : (toggleHighByte s).state = s.state := rfl
@[simp] theorem toggleHighByte_fault : (toggleHighByte s).fault = s.fault := rfl
@[simp] theorem toggleHighByte_wr : (toggleHighByte s).wr = s.wr := rfl
@[simp] theorem toggleHighByte_cursor : (toggleHighByte s).cursor = s.cursor := rfl
@[simp] theorem toggleHighByte_formatted : (toggleHighByte s).formatted = s.formatted := rfl
@[simp] theorem toggleHighByte_highByteNext : (toggleHighByte s).highByteNext = !s.highByteNext := rfl
@[simp] theorem toggleHighByte_ckind : (toggleHighByte s).ckind = s.ckind := rfl
@[simp] theorem toggleHighByte_clen : (toggleHighByte s).clen = s.clen := rfl
@[simp] theorem toggleHighByte_cidx : (toggleHighByte s).cidx = s.cidx := rfl
@[simp] theorem toggleHighByte_chk : (toggleHighByte s).chk = s.chk := rfl
@[simp] theorem toggleHighByte_lb : (toggleHighByte s).lb = s.lb := rfl
@[simp] theorem toggleHighByte_txt : (toggleHighByte s).txt = s.txt := rfl
@[simp] theorem toggleHighByte_txtv : (toggleHighByte s).txtv = s.txtv := rfl
@[simp] theorem toggleHighByte_txd : (toggleHighByte s).txd = s.txd := rfl
@[simp] theorem toggleHighByte_req : (toggleHighByte s).req = s.req := rfl
@[simp] theorem toggleHighByte_ack : (toggleHighByte s).ack = s.ack := rfl
@[simp] theorem toggleHighByte_ackSync : (toggleHighByte s).ackSync = s.ackSync := rfl
@[simp] theorem toggleHighByte_reqSync : (toggleHighByte s).reqSync = s.reqSync := rfl
@[simp] theorem toggleHighByte_wire : (toggleHighByte s).wire = s.wire := rfl
@[simp] theorem toggleHighByte_taken : (toggleHighByte s).taken = s.taken := rfl
@[simp] theorem toggleHighByte_result : (toggleHighByte s).result = s.result := rfl
@[simp] theorem toggleHighByte_inputs : (toggleHighByte s).inputs = s.inputs := rfl
@[simp] theorem toggleHighByte_draws : (toggleHighByte s).draws = s.draws := rfl
@[simp] theorem toggleHighByte_drawCount : (toggleHighByte s).drawCount = s.drawCount := rfl
@[simp] theorem toggleHighByte_pclkRuns : (toggleHighByte s).pclkRuns = s.pclkRuns := rfl

/-! `markText` -/
@[simp] theorem markText_cfg (i : Nat) : (markText i s).cfg = s.cfg := rfl
@[simp] theorem markText_state (i : Nat) : (markText i s).state = s.state := rfl
@[simp] theorem markText_fault (i : Nat) : (markText i s).fault = s.fault := rfl
@[simp] theorem markText_wr (i : Nat) : (markText i s).wr = s.wr := rfl
@[simp] theorem markText_cursor (i : Nat) : (markText i s).cursor = s.cursor := rfl
@[simp] theorem markText_formatted (i : Nat) : (markText i s).formatted = s.formatted := rfl
@[simp] theorem markText_highByteNext (i : Nat) : (markText i s).highByteNext = s.highByteNext := rfl
@[simp] theorem markText_ckind (i : Nat) : (markText i s).ckind = s.ckind := rfl
@[simp] theorem markText_clen (i : Nat) : (markText i s).clen = s.clen := rfl
@[simp] theorem markText_cidx (i : Nat) : (markText i s).cidx = s.cidx := rfl
@[simp] theorem markText_chk (i : Nat) : (markText i s).chk = s.chk := rfl
@[simp] theorem markText_lb (i : Nat) : (markText i s).lb = s.lb := rfl
@[simp] theorem markText_txt (i : Nat) : (markText i s).txt = s.txt := rfl
@[simp] theorem markText_txtv (i : Nat) : (markText i s).txtv = s.txtv ||| (1#254 <<< i) := rfl
@[simp] theorem markText_txd (i : Nat) : (markText i s).txd = s.txd := rfl
@[simp] theorem markText_req (i : Nat) : (markText i s).req = s.req := rfl
@[simp] theorem markText_ack (i : Nat) : (markText i s).ack = s.ack := rfl
@[simp] theorem markText_ackSync (i : Nat) : (markText i s).ackSync = s.ackSync := rfl
@[simp] theorem markText_reqSync (i : Nat) : (markText i s).reqSync = s.reqSync := rfl
@[simp] theorem markText_wire (i : Nat) : (markText i s).wire = s.wire := rfl
@[simp] theorem markText_taken (i : Nat) : (markText i s).taken = s.taken := rfl
@[simp] theorem markText_result (i : Nat) : (markText i s).result = s.result := rfl
@[simp] theorem markText_inputs (i : Nat) : (markText i s).inputs = s.inputs := rfl
@[simp] theorem markText_draws (i : Nat) : (markText i s).draws = s.draws := rfl
@[simp] theorem markText_drawCount (i : Nat) : (markText i s).drawCount = s.drawCount := rfl
@[simp] theorem markText_pclkRuns (i : Nat) : (markText i s).pclkRuns = s.pclkRuns := rfl

/-! `foldChk` -/
@[simp] theorem foldChk_cfg (v : Byte) : (foldChk v s).cfg = s.cfg := rfl
@[simp] theorem foldChk_state (v : Byte) : (foldChk v s).state = s.state := rfl
@[simp] theorem foldChk_fault (v : Byte) : (foldChk v s).fault = s.fault := rfl
@[simp] theorem foldChk_wr (v : Byte) : (foldChk v s).wr = s.wr := rfl
@[simp] theorem foldChk_cursor (v : Byte) : (foldChk v s).cursor = s.cursor := rfl
@[simp] theorem foldChk_formatted (v : Byte) : (foldChk v s).formatted = s.formatted := rfl
@[simp] theorem foldChk_highByteNext (v : Byte) : (foldChk v s).highByteNext = s.highByteNext := rfl
@[simp] theorem foldChk_ckind (v : Byte) : (foldChk v s).ckind = s.ckind := rfl
@[simp] theorem foldChk_clen (v : Byte) : (foldChk v s).clen = s.clen := rfl
@[simp] theorem foldChk_cidx (v : Byte) : (foldChk v s).cidx = s.cidx := rfl
@[simp] theorem foldChk_chk (v : Byte) : (foldChk v s).chk = s.chk ^^^ v := rfl
@[simp] theorem foldChk_lb (v : Byte) : (foldChk v s).lb = s.lb := rfl
@[simp] theorem foldChk_txt (v : Byte) : (foldChk v s).txt = s.txt := rfl
@[simp] theorem foldChk_txtv (v : Byte) : (foldChk v s).txtv = s.txtv := rfl
@[simp] theorem foldChk_txd (v : Byte) : (foldChk v s).txd = s.txd := rfl
@[simp] theorem foldChk_req (v : Byte) : (foldChk v s).req = s.req := rfl
@[simp] theorem foldChk_ack (v : Byte) : (foldChk v s).ack = s.ack := rfl
@[simp] theorem foldChk_ackSync (v : Byte) : (foldChk v s).ackSync = s.ackSync := rfl
@[simp] theorem foldChk_reqSync (v : Byte) : (foldChk v s).reqSync = s.reqSync := rfl
@[simp] theorem foldChk_wire (v : Byte) : (foldChk v s).wire = s.wire := rfl
@[simp] theorem foldChk_taken (v : Byte) : (foldChk v s).taken = s.taken := rfl
@[simp] theorem foldChk_result (v : Byte) : (foldChk v s).result = s.result := rfl
@[simp] theorem foldChk_inputs (v : Byte) : (foldChk v s).inputs = s.inputs := rfl
@[simp] theorem foldChk_draws (v : Byte) : (foldChk v s).draws = s.draws := rfl
@[simp] theorem foldChk_drawCount (v : Byte) : (foldChk v s).drawCount = s.drawCount := rfl
@[simp] theorem foldChk_pclkRuns (v : Byte) : (foldChk v s).pclkRuns = s.pclkRuns := rfl

/-! `writeText` -/
@[simp] theorem writeText_cfg (i : Nat) (v : Byte) : (writeText i v s).cfg = s.cfg := rfl
@[simp] theorem writeText_state (i : Nat) (v : Byte) : (writeText i v s).state = s.state := rfl
@[simp] theorem writeText_fault (i : Nat) (v : Byte) : (writeText i v s).fault = s.fault := rfl
@[simp] theorem writeText_wr (i : Nat) (v : Byte) : (writeText i v s).wr = s.wr := rfl
@[simp] theorem writeText_cursor (i : Nat) (v : Byte) : (writeText i v s).cursor = s.cursor := rfl
@[simp] theorem writeText_formatted (i : Nat) (v : Byte) : (writeText i v s).formatted = s.formatted := rfl
@[simp] theorem writeText_highByteNext (i : Nat) (v : Byte) : (writeText i v s).highByteNext = s.highByteNext := rfl
@[simp] theorem writeText_ckind (i : Nat) (v : Byte) : (writeText i v s).ckind = s.ckind := rfl
@[simp] theorem writeText_clen (i : Nat) (v : Byte) : (writeText i v s).clen = s.clen := rfl
@[simp] theorem writeText_cidx (i : Nat) (v : Byte) : (writeText i v s).cidx = s.cidx := rfl
@[simp] theorem writeText_chk (i : Nat) (v : Byte) : (writeText i v s).chk = s.chk := rfl
@[simp] theorem writeText_lb (i : Nat) (v : Byte) : (writeText i v s).lb = s.lb := rfl
@[simp] theorem writeText_txt (i : Nat) (v : Byte) : (writeText i v s).txt = s.txt.write i v := rfl
@[simp] theorem writeText_txtv (i : Nat) (v : Byte) : (writeText i v s).txtv = s.txtv ||| (1#254 <<< i) := rfl
@[simp] theorem writeText_txd (i : Nat) (v : Byte) : (writeText i v s).txd = s.txd := rfl
@[simp] theorem writeText_req (i : Nat) (v : Byte) : (writeText i v s).req = s.req := rfl
@[simp] theorem writeText_ack (i : Nat) (v : Byte) : (writeText i v s).ack = s.ack := rfl
@[simp] theorem writeText_ackSync (i : Nat) (v : Byte) : (writeText i v s).ackSync = s.ackSync := rfl
@[simp] theorem writeText_reqSync (i : Nat) (v : Byte) : (writeText i v s).reqSync = s.reqSync := rfl
@[simp] theorem writeText_wire (i : Nat) (v : Byte) : (writeText i v s).wire = s.wire := rfl
@[simp] theorem writeText_taken (i : Nat) (v : Byte) : (writeText i v s).taken = s.taken := rfl
@[simp] theorem writeText_result (i : Nat) (v : Byte) : (writeText i v s).result = s.result := rfl
@[simp] theorem writeText_inputs (i : Nat) (v : Byte) : (writeText i v s).inputs = s.inputs := rfl
@[simp] theorem writeText_draws (i : Nat) (v : Byte) : (writeText i v s).draws = s.draws := rfl
@[simp] theorem writeText_drawCount (i : Nat) (v : Byte) : (writeText i v s).drawCount = s.drawCount := rfl
@[simp] theorem writeText_pclkRuns (i : Nat) (v : Byte) : (writeText i v s).pclkRuns = s.pclkRuns := rfl

/-! `raiseFault` -/
@[simp] theorem raiseFault_cfg (c : Cause) : (raiseFault c s).cfg = s.cfg := rfl
@[simp] theorem raiseFault_state (c : Cause) : (raiseFault c s).state = s.state := rfl
@[simp] theorem raiseFault_fault (c : Cause) : (raiseFault c s).fault = c.code := rfl
@[simp] theorem raiseFault_wr (c : Cause) : (raiseFault c s).wr = s.wr := rfl
@[simp] theorem raiseFault_cursor (c : Cause) : (raiseFault c s).cursor = s.cursor := rfl
@[simp] theorem raiseFault_formatted (c : Cause) : (raiseFault c s).formatted = s.formatted := rfl
@[simp] theorem raiseFault_highByteNext (c : Cause) : (raiseFault c s).highByteNext = s.highByteNext := rfl
@[simp] theorem raiseFault_ckind (c : Cause) : (raiseFault c s).ckind = s.ckind := rfl
@[simp] theorem raiseFault_clen (c : Cause) : (raiseFault c s).clen = s.clen := rfl
@[simp] theorem raiseFault_cidx (c : Cause) : (raiseFault c s).cidx = s.cidx := rfl
@[simp] theorem raiseFault_chk (c : Cause) : (raiseFault c s).chk = s.chk := rfl
@[simp] theorem raiseFault_lb (c : Cause) : (raiseFault c s).lb = s.lb := rfl
@[simp] theorem raiseFault_txt (c : Cause) : (raiseFault c s).txt = s.txt := rfl
@[simp] theorem raiseFault_txtv (c : Cause) : (raiseFault c s).txtv = s.txtv := rfl
@[simp] theorem raiseFault_txd (c : Cause) : (raiseFault c s).txd = s.txd := rfl
@[simp] theorem raiseFault_req (c : Cause) : (raiseFault c s).req = s.req := rfl
@[simp] theorem raiseFault_ack (c : Cause) : (raiseFault c s).ack = s.ack := rfl
@[simp] theorem raiseFault_ackSync (c : Cause) : (raiseFault c s).ackSync = s.ackSync := rfl
@[simp] theorem raiseFault_reqSync (c : Cause) : (raiseFault c s).reqSync = s.reqSync := rfl
@[simp] theorem raiseFault_wire (c : Cause) : (raiseFault c s).wire = s.wire := rfl
@[simp] theorem raiseFault_taken (c : Cause) : (raiseFault c s).taken = s.taken := rfl
@[simp] theorem raiseFault_result (c : Cause) : (raiseFault c s).result = s.result := rfl
@[simp] theorem raiseFault_inputs (c : Cause) : (raiseFault c s).inputs = s.inputs := rfl
@[simp] theorem raiseFault_draws (c : Cause) : (raiseFault c s).draws = s.draws := rfl
@[simp] theorem raiseFault_drawCount (c : Cause) : (raiseFault c s).drawCount = s.drawCount := rfl
@[simp] theorem raiseFault_pclkRuns (c : Cause) : (raiseFault c s).pclkRuns = s.pclkRuns := rfl

/-! `consumeDraw` -/
@[simp] theorem consumeDraw_cfg : (consumeDraw s).cfg = s.cfg := rfl
@[simp] theorem consumeDraw_state : (consumeDraw s).state = s.state := rfl
@[simp] theorem consumeDraw_fault : (consumeDraw s).fault = s.fault := rfl
@[simp] theorem consumeDraw_wr : (consumeDraw s).wr = s.wr := rfl
@[simp] theorem consumeDraw_cursor : (consumeDraw s).cursor = s.cursor := rfl
@[simp] theorem consumeDraw_formatted : (consumeDraw s).formatted = s.formatted := rfl
@[simp] theorem consumeDraw_highByteNext : (consumeDraw s).highByteNext = s.highByteNext := rfl
@[simp] theorem consumeDraw_ckind : (consumeDraw s).ckind = s.ckind := rfl
@[simp] theorem consumeDraw_clen : (consumeDraw s).clen = s.clen := rfl
@[simp] theorem consumeDraw_cidx : (consumeDraw s).cidx = s.cidx := rfl
@[simp] theorem consumeDraw_chk : (consumeDraw s).chk = s.chk := rfl
@[simp] theorem consumeDraw_lb : (consumeDraw s).lb = s.lb := rfl
@[simp] theorem consumeDraw_txt : (consumeDraw s).txt = s.txt := rfl
@[simp] theorem consumeDraw_txtv : (consumeDraw s).txtv = s.txtv := rfl
@[simp] theorem consumeDraw_txd : (consumeDraw s).txd = s.txd := rfl
@[simp] theorem consumeDraw_req : (consumeDraw s).req = s.req := rfl
@[simp] theorem consumeDraw_ack : (consumeDraw s).ack = s.ack := rfl
@[simp] theorem consumeDraw_ackSync : (consumeDraw s).ackSync = s.ackSync := rfl
@[simp] theorem consumeDraw_reqSync : (consumeDraw s).reqSync = s.reqSync := rfl
@[simp] theorem consumeDraw_wire : (consumeDraw s).wire = s.wire := rfl
@[simp] theorem consumeDraw_taken : (consumeDraw s).taken = s.taken := rfl
@[simp] theorem consumeDraw_result : (consumeDraw s).result = s.result := rfl
@[simp] theorem consumeDraw_inputs : (consumeDraw s).inputs = s.inputs := rfl
@[simp] theorem consumeDraw_draws : (consumeDraw s).draws = s.draws.tail := rfl
@[simp] theorem consumeDraw_drawCount : (consumeDraw s).drawCount = s.drawCount + 1 := rfl
@[simp] theorem consumeDraw_pclkRuns : (consumeDraw s).pclkRuns = s.pclkRuns := rfl

/-! `emit` -/
@[simp] theorem emit_cfg (v : Byte) : (emit v s).cfg = s.cfg := rfl
@[simp] theorem emit_state (v : Byte) : (emit v s).state = s.state := rfl
@[simp] theorem emit_fault (v : Byte) : (emit v s).fault = s.fault := rfl
@[simp] theorem emit_wr (v : Byte) : (emit v s).wr = s.wr := rfl
@[simp] theorem emit_cursor (v : Byte) : (emit v s).cursor = s.cursor := rfl
@[simp] theorem emit_formatted (v : Byte) : (emit v s).formatted = s.formatted := rfl
@[simp] theorem emit_highByteNext (v : Byte) : (emit v s).highByteNext = s.highByteNext := rfl
@[simp] theorem emit_ckind (v : Byte) : (emit v s).ckind = s.ckind := rfl
@[simp] theorem emit_clen (v : Byte) : (emit v s).clen = s.clen := rfl
@[simp] theorem emit_cidx (v : Byte) : (emit v s).cidx = s.cidx := rfl
@[simp] theorem emit_chk (v : Byte) : (emit v s).chk = s.chk := rfl
@[simp] theorem emit_lb (v : Byte) : (emit v s).lb = s.lb := rfl
@[simp] theorem emit_txt (v : Byte) : (emit v s).txt = s.txt := rfl
@[simp] theorem emit_txtv (v : Byte) : (emit v s).txtv = s.txtv := rfl
@[simp] theorem emit_txd (v : Byte) : (emit v s).txd = v := rfl
@[simp] theorem emit_req (v : Byte) : (emit v s).req = !s.req := rfl
@[simp] theorem emit_ack (v : Byte) : (emit v s).ack = s.ack := rfl
@[simp] theorem emit_ackSync (v : Byte) : (emit v s).ackSync = s.ackSync := rfl
@[simp] theorem emit_reqSync (v : Byte) : (emit v s).reqSync = s.reqSync := rfl
@[simp] theorem emit_wire (v : Byte) : (emit v s).wire = s.wire ++ [v] := rfl
@[simp] theorem emit_taken (v : Byte) : (emit v s).taken = s.taken := rfl
@[simp] theorem emit_result (v : Byte) : (emit v s).result = s.result := rfl
@[simp] theorem emit_inputs (v : Byte) : (emit v s).inputs = s.inputs := rfl
@[simp] theorem emit_draws (v : Byte) : (emit v s).draws = s.draws := rfl
@[simp] theorem emit_drawCount (v : Byte) : (emit v s).drawCount = s.drawCount := rfl
@[simp] theorem emit_pclkRuns (v : Byte) : (emit v s).pclkRuns = s.pclkRuns := rfl

/-! `pclkEdge` -/
@[simp] theorem pclkEdge_cfg : (pclkEdge s).cfg = s.cfg := rfl
@[simp] theorem pclkEdge_state : (pclkEdge s).state = s.state := rfl
@[simp] theorem pclkEdge_fault : (pclkEdge s).fault = s.fault := rfl
@[simp] theorem pclkEdge_wr : (pclkEdge s).wr = s.wr := rfl
@[simp] theorem pclkEdge_cursor : (pclkEdge s).cursor = s.cursor := rfl
@[simp] theorem pclkEdge_formatted : (pclkEdge s).formatted = s.formatted := rfl
@[simp] theorem pclkEdge_highByteNext : (pclkEdge s).highByteNext = s.highByteNext := rfl
@[simp] theorem pclkEdge_ckind : (pclkEdge s).ckind = s.ckind := rfl
@[simp] theorem pclkEdge_clen : (pclkEdge s).clen = s.clen := rfl
@[simp] theorem pclkEdge_cidx : (pclkEdge s).cidx = s.cidx := rfl
@[simp] theorem pclkEdge_chk : (pclkEdge s).chk = s.chk := rfl
@[simp] theorem pclkEdge_lb : (pclkEdge s).lb = s.lb := rfl
@[simp] theorem pclkEdge_txt : (pclkEdge s).txt = s.txt := rfl
@[simp] theorem pclkEdge_txtv : (pclkEdge s).txtv = s.txtv := rfl
@[simp] theorem pclkEdge_txd : (pclkEdge s).txd = s.txd := rfl
@[simp] theorem pclkEdge_req : (pclkEdge s).req = s.req := rfl
@[simp] theorem pclkEdge_ack : (pclkEdge s).ack = s.ack := rfl
@[simp] theorem pclkEdge_ackSync : (pclkEdge s).ackSync = shiftIn s.ack s.ackSync := rfl
@[simp] theorem pclkEdge_reqSync : (pclkEdge s).reqSync = s.reqSync := rfl
@[simp] theorem pclkEdge_wire : (pclkEdge s).wire = s.wire := rfl
@[simp] theorem pclkEdge_taken : (pclkEdge s).taken = s.taken := rfl
@[simp] theorem pclkEdge_result : (pclkEdge s).result = s.result := rfl
@[simp] theorem pclkEdge_inputs : (pclkEdge s).inputs = s.inputs := rfl
@[simp] theorem pclkEdge_draws : (pclkEdge s).draws = s.draws := rfl
@[simp] theorem pclkEdge_drawCount : (pclkEdge s).drawCount = s.drawCount := rfl
@[simp] theorem pclkEdge_pclkRuns : (pclkEdge s).pclkRuns = s.pclkRuns := rfl

/-! `takeByte` -/
@[simp] theorem takeByte_cfg : (takeByte s).cfg = s.cfg := rfl
@[simp] theorem takeByte_state : (takeByte s).state = s.state := rfl
@[simp] theorem takeByte_fault : (takeByte s).fault = s.fault := rfl
@[simp] theorem takeByte_wr : (takeByte s).wr = s.wr := rfl
@[simp] theorem takeByte_cursor : (takeByte s).cursor = s.cursor := rfl
@[simp] theorem takeByte_formatted : (takeByte s).formatted = s.formatted := rfl
@[simp] theorem takeByte_highByteNext : (takeByte s).highByteNext = s.highByteNext := rfl
@[simp] theorem takeByte_ckind : (takeByte s).ckind = s.ckind := rfl
@[simp] theorem takeByte_clen : (takeByte s).clen = s.clen := rfl
@[simp] theorem takeByte_cidx : (takeByte s).cidx = s.cidx := rfl
@[simp] theorem takeByte_chk : (takeByte s).chk = s.chk := rfl
@[simp] theorem takeByte_lb : (takeByte s).lb = s.lb := rfl
@[simp] theorem takeByte_txt : (takeByte s).txt = s.txt := rfl
@[simp] theorem takeByte_txtv : (takeByte s).txtv = s.txtv := rfl
@[simp] theorem takeByte_txd : (takeByte s).txd = s.txd := rfl
@[simp] theorem takeByte_req : (takeByte s).req = s.req := rfl
@[simp] theorem takeByte_ack : (takeByte s).ack = !s.ack := rfl
@[simp] theorem takeByte_ackSync : (takeByte s).ackSync = s.ackSync := rfl
@[simp] theorem takeByte_reqSync : (takeByte s).reqSync = s.reqSync := rfl
@[simp] theorem takeByte_wire : (takeByte s).wire = s.wire := rfl
@[simp] theorem takeByte_taken : (takeByte s).taken = s.taken ++ [s.txd] := rfl
@[simp] theorem takeByte_result : (takeByte s).result = s.result := rfl
@[simp] theorem takeByte_inputs : (takeByte s).inputs = s.inputs := rfl
@[simp] theorem takeByte_draws : (takeByte s).draws = s.draws := rfl
@[simp] theorem takeByte_drawCount : (takeByte s).drawCount = s.drawCount := rfl
@[simp] theorem takeByte_pclkRuns : (takeByte s).pclkRuns = s.pclkRuns := rfl

/-! `startCommand` -/
@[simp] theorem startCommand_cfg (k : CmdKind) (n : Byte) : (startCommand k n s).cfg = s.cfg := rfl
@[simp] theorem startCommand_state (k : CmdKind) (n : Byte) : (startCommand k n s).state = .cmd := rfl
@[simp] theorem startCommand_fault (k : CmdKind) (n : Byte) : (startCommand k n s).fault = s.fault := rfl
@[simp] theorem startCommand_wr (k : CmdKind) (n : Byte) : (startCommand k n s).wr = s.wr := rfl
@[simp] theorem startCommand_cursor (k : CmdKind) (n : Byte) : (startCommand k n s).cursor = s.cursor := rfl
@[simp] theorem startCommand_formatted (k : CmdKind) (n : Byte) : (startCommand k n s).formatted = s.formatted := rfl
@[simp] theorem startCommand_highByteNext (k : CmdKind) (n : Byte) : (startCommand k n s).highByteNext = s.highByteNext := rfl
@[simp] theorem startCommand_ckind (k : CmdKind) (n : Byte) : (startCommand k n s).ckind = k := rfl
@[simp] theorem startCommand_clen (k : CmdKind) (n : Byte) : (startCommand k n s).clen = n := rfl
@[simp] theorem startCommand_cidx (k : CmdKind) (n : Byte) : (startCommand k n s).cidx = 0#9 := rfl
@[simp] theorem startCommand_chk (k : CmdKind) (n : Byte) : (startCommand k n s).chk = 0#8 := rfl
@[simp] theorem startCommand_lb (k : CmdKind) (n : Byte) : (startCommand k n s).lb = s.lb := rfl
@[simp] theorem startCommand_txt (k : CmdKind) (n : Byte) : (startCommand k n s).txt = s.txt := rfl
@[simp] theorem startCommand_txtv (k : CmdKind) (n : Byte) : (startCommand k n s).txtv = s.txtv := rfl
@[simp] theorem startCommand_txd (k : CmdKind) (n : Byte) : (startCommand k n s).txd = s.txd := rfl
@[simp] theorem startCommand_req (k : CmdKind) (n : Byte) : (startCommand k n s).req = s.req := rfl
@[simp] theorem startCommand_ack (k : CmdKind) (n : Byte) : (startCommand k n s).ack = s.ack := rfl
@[simp] theorem startCommand_ackSync (k : CmdKind) (n : Byte) : (startCommand k n s).ackSync = s.ackSync := rfl
@[simp] theorem startCommand_reqSync (k : CmdKind) (n : Byte) : (startCommand k n s).reqSync = s.reqSync := rfl
@[simp] theorem startCommand_wire (k : CmdKind) (n : Byte) : (startCommand k n s).wire = s.wire := rfl
@[simp] theorem startCommand_taken (k : CmdKind) (n : Byte) : (startCommand k n s).taken = s.taken := rfl
@[simp] theorem startCommand_result (k : CmdKind) (n : Byte) : (startCommand k n s).result = s.result := rfl
@[simp] theorem startCommand_inputs (k : CmdKind) (n : Byte) : (startCommand k n s).inputs = s.inputs := rfl
@[simp] theorem startCommand_draws (k : CmdKind) (n : Byte) : (startCommand k n s).draws = s.draws := rfl
@[simp] theorem startCommand_drawCount (k : CmdKind) (n : Byte) : (startCommand k n s).drawCount = s.drawCount := rfl
@[simp] theorem startCommand_pclkRuns (k : CmdKind) (n : Byte) : (startCommand k n s).pclkRuns = s.pclkRuns := rfl

/-! `openLine` -/
@[simp] theorem openLine_cfg : (openLine s).cfg = s.cfg := rfl
@[simp] theorem openLine_state : (openLine s).state = .line := rfl
@[simp] theorem openLine_fault : (openLine s).fault = s.fault := rfl
@[simp] theorem openLine_wr : (openLine s).wr = 0#11 := rfl
@[simp] theorem openLine_cursor : (openLine s).cursor = 0#11 := rfl
@[simp] theorem openLine_formatted : (openLine s).formatted = false := rfl
@[simp] theorem openLine_highByteNext : (openLine s).highByteNext = true := rfl
@[simp] theorem openLine_ckind : (openLine s).ckind = s.ckind := rfl
@[simp] theorem openLine_clen : (openLine s).clen = s.clen := rfl
@[simp] theorem openLine_cidx : (openLine s).cidx = s.cidx := rfl
@[simp] theorem openLine_chk : (openLine s).chk = s.chk := rfl
@[simp] theorem openLine_lb : (openLine s).lb = s.lb := rfl
@[simp] theorem openLine_txt : (openLine s).txt = s.txt := rfl
@[simp] theorem openLine_txtv : (openLine s).txtv = s.txtv := rfl
@[simp] theorem openLine_txd : (openLine s).txd = s.txd := rfl
@[simp] theorem openLine_req : (openLine s).req = s.req := rfl
@[simp] theorem openLine_ack : (openLine s).ack = s.ack := rfl
@[simp] theorem openLine_ackSync : (openLine s).ackSync = s.ackSync := rfl
@[simp] theorem openLine_reqSync : (openLine s).reqSync = s.reqSync := rfl
@[simp] theorem openLine_wire : (openLine s).wire = s.wire := rfl
@[simp] theorem openLine_taken : (openLine s).taken = s.taken := rfl
@[simp] theorem openLine_result : (openLine s).result = s.result := rfl
@[simp] theorem openLine_inputs : (openLine s).inputs = s.inputs := rfl
@[simp] theorem openLine_draws : (openLine s).draws = s.draws := rfl
@[simp] theorem openLine_drawCount : (openLine s).drawCount = s.drawCount := rfl
@[simp] theorem openLine_pclkRuns : (openLine s).pclkRuns = s.pclkRuns := rfl

/-! `setCtl` -/
@[simp] theorem setCtl_cfg (x : CtlState) : (setCtl x s).cfg = s.cfg := rfl
@[simp] theorem setCtl_state (x : CtlState) : (setCtl x s).state = x := rfl
@[simp] theorem setCtl_fault (x : CtlState) : (setCtl x s).fault = s.fault := rfl
@[simp] theorem setCtl_wr (x : CtlState) : (setCtl x s).wr = s.wr := rfl
@[simp] theorem setCtl_cursor (x : CtlState) : (setCtl x s).cursor = s.cursor := rfl
@[simp] theorem setCtl_formatted (x : CtlState) : (setCtl x s).formatted = s.formatted := rfl
@[simp] theorem setCtl_highByteNext (x : CtlState) : (setCtl x s).highByteNext = s.highByteNext := rfl
@[simp] theorem setCtl_ckind (x : CtlState) : (setCtl x s).ckind = s.ckind := rfl
@[simp] theorem setCtl_clen (x : CtlState) : (setCtl x s).clen = s.clen := rfl
@[simp] theorem setCtl_cidx (x : CtlState) : (setCtl x s).cidx = s.cidx := rfl
@[simp] theorem setCtl_chk (x : CtlState) : (setCtl x s).chk = s.chk := rfl
@[simp] theorem setCtl_lb (x : CtlState) : (setCtl x s).lb = s.lb := rfl
@[simp] theorem setCtl_txt (x : CtlState) : (setCtl x s).txt = s.txt := rfl
@[simp] theorem setCtl_txtv (x : CtlState) : (setCtl x s).txtv = s.txtv := rfl
@[simp] theorem setCtl_txd (x : CtlState) : (setCtl x s).txd = s.txd := rfl
@[simp] theorem setCtl_req (x : CtlState) : (setCtl x s).req = s.req := rfl
@[simp] theorem setCtl_ack (x : CtlState) : (setCtl x s).ack = s.ack := rfl
@[simp] theorem setCtl_ackSync (x : CtlState) : (setCtl x s).ackSync = s.ackSync := rfl
@[simp] theorem setCtl_reqSync (x : CtlState) : (setCtl x s).reqSync = s.reqSync := rfl
@[simp] theorem setCtl_wire (x : CtlState) : (setCtl x s).wire = s.wire := rfl
@[simp] theorem setCtl_taken (x : CtlState) : (setCtl x s).taken = s.taken := rfl
@[simp] theorem setCtl_result (x : CtlState) : (setCtl x s).result = s.result := rfl
@[simp] theorem setCtl_inputs (x : CtlState) : (setCtl x s).inputs = s.inputs := rfl
@[simp] theorem setCtl_draws (x : CtlState) : (setCtl x s).draws = s.draws := rfl
@[simp] theorem setCtl_drawCount (x : CtlState) : (setCtl x s).drawCount = s.drawCount := rfl
@[simp] theorem setCtl_pclkRuns (x : CtlState) : (setCtl x s).pclkRuns = s.pclkRuns := rfl

/-! `bumpWr` -/
@[simp] theorem bumpWr_cfg : (bumpWr s).cfg = s.cfg := rfl
@[simp] theorem bumpWr_state : (bumpWr s).state = s.state := rfl
@[simp] theorem bumpWr_fault : (bumpWr s).fault = s.fault := rfl
@[simp] theorem bumpWr_wr : (bumpWr s).wr = s.wr + 1#11 := rfl
@[simp] theorem bumpWr_cursor : (bumpWr s).cursor = s.cursor := rfl
@[simp] theorem bumpWr_formatted : (bumpWr s).formatted = s.formatted := rfl
@[simp] theorem bumpWr_highByteNext : (bumpWr s).highByteNext = s.highByteNext := rfl
@[simp] theorem bumpWr_ckind : (bumpWr s).ckind = s.ckind := rfl
@[simp] theorem bumpWr_clen : (bumpWr s).clen = s.clen := rfl
@[simp] theorem bumpWr_cidx : (bumpWr s).cidx = s.cidx := rfl
@[simp] theorem bumpWr_chk : (bumpWr s).chk = s.chk := rfl
@[simp] theorem bumpWr_lb : (bumpWr s).lb = s.lb := rfl
@[simp] theorem bumpWr_txt : (bumpWr s).txt = s.txt := rfl
@[simp] theorem bumpWr_txtv : (bumpWr s).txtv = s.txtv := rfl
@[simp] theorem bumpWr_txd : (bumpWr s).txd = s.txd := rfl
@[simp] theorem bumpWr_req : (bumpWr s).req = s.req := rfl
@[simp] theorem bumpWr_ack : (bumpWr s).ack = s.ack := rfl
@[simp] theorem bumpWr_ackSync : (bumpWr s).ackSync = s.ackSync := rfl
@[simp] theorem bumpWr_reqSync : (bumpWr s).reqSync = s.reqSync := rfl
@[simp] theorem bumpWr_wire : (bumpWr s).wire = s.wire := rfl
@[simp] theorem bumpWr_taken : (bumpWr s).taken = s.taken := rfl
@[simp] theorem bumpWr_result : (bumpWr s).result = s.result := rfl
@[simp] theorem bumpWr_inputs : (bumpWr s).inputs = s.inputs := rfl
@[simp] theorem bumpWr_draws : (bumpWr s).draws = s.draws := rfl
@[simp] theorem bumpWr_drawCount : (bumpWr s).drawCount = s.drawCount := rfl
@[simp] theorem bumpWr_pclkRuns : (bumpWr s).pclkRuns = s.pclkRuns := rfl

/-! `bumpCursor` -/
@[simp] theorem bumpCursor_cfg : (bumpCursor s).cfg = s.cfg := rfl
@[simp] theorem bumpCursor_state : (bumpCursor s).state = s.state := rfl
@[simp] theorem bumpCursor_fault : (bumpCursor s).fault = s.fault := rfl
@[simp] theorem bumpCursor_wr : (bumpCursor s).wr = s.wr := rfl
@[simp] theorem bumpCursor_cursor : (bumpCursor s).cursor = s.cursor + 1#11 := rfl
@[simp] theorem bumpCursor_formatted : (bumpCursor s).formatted = s.formatted := rfl
@[simp] theorem bumpCursor_highByteNext : (bumpCursor s).highByteNext = s.highByteNext := rfl
@[simp] theorem bumpCursor_ckind : (bumpCursor s).ckind = s.ckind := rfl
@[simp] theorem bumpCursor_clen : (bumpCursor s).clen = s.clen := rfl
@[simp] theorem bumpCursor_cidx : (bumpCursor s).cidx = s.cidx := rfl
@[simp] theorem bumpCursor_chk : (bumpCursor s).chk = s.chk := rfl
@[simp] theorem bumpCursor_lb : (bumpCursor s).lb = s.lb := rfl
@[simp] theorem bumpCursor_txt : (bumpCursor s).txt = s.txt := rfl
@[simp] theorem bumpCursor_txtv : (bumpCursor s).txtv = s.txtv := rfl
@[simp] theorem bumpCursor_txd : (bumpCursor s).txd = s.txd := rfl
@[simp] theorem bumpCursor_req : (bumpCursor s).req = s.req := rfl
@[simp] theorem bumpCursor_ack : (bumpCursor s).ack = s.ack := rfl
@[simp] theorem bumpCursor_ackSync : (bumpCursor s).ackSync = s.ackSync := rfl
@[simp] theorem bumpCursor_reqSync : (bumpCursor s).reqSync = s.reqSync := rfl
@[simp] theorem bumpCursor_wire : (bumpCursor s).wire = s.wire := rfl
@[simp] theorem bumpCursor_taken : (bumpCursor s).taken = s.taken := rfl
@[simp] theorem bumpCursor_result : (bumpCursor s).result = s.result := rfl
@[simp] theorem bumpCursor_inputs : (bumpCursor s).inputs = s.inputs := rfl
@[simp] theorem bumpCursor_draws : (bumpCursor s).draws = s.draws := rfl
@[simp] theorem bumpCursor_drawCount : (bumpCursor s).drawCount = s.drawCount := rfl
@[simp] theorem bumpCursor_pclkRuns : (bumpCursor s).pclkRuns = s.pclkRuns := rfl

/-! `yieldResult` -/
@[simp] theorem yieldResult_cfg (r : List Byte) : (yieldResult r s).cfg = s.cfg := rfl
@[simp] theorem yieldResult_state (r : List Byte) : (yieldResult r s).state = s.state := rfl
@[simp] theorem yieldResult_fault (r : List Byte) : (yieldResult r s).fault = s.fault := rfl
@[simp] theorem yieldResult_wr (r : List Byte) : (yieldResult r s).wr = s.wr := rfl
@[simp] theorem yieldResult_cursor (r : List Byte) : (yieldResult r s).cursor = s.cursor := rfl
@[simp] theorem yieldResult_formatted (r : List Byte) : (yieldResult r s).formatted = s.formatted := rfl
@[simp] theorem yieldResult_highByteNext (r : List Byte) : (yieldResult r s).highByteNext = s.highByteNext := rfl
@[simp] theorem yieldResult_ckind (r : List Byte) : (yieldResult r s).ckind = s.ckind := rfl
@[simp] theorem yieldResult_clen (r : List Byte) : (yieldResult r s).clen = s.clen := rfl
@[simp] theorem yieldResult_cidx (r : List Byte) : (yieldResult r s).cidx = s.cidx := rfl
@[simp] theorem yieldResult_chk (r : List Byte) : (yieldResult r s).chk = s.chk := rfl
@[simp] theorem yieldResult_lb (r : List Byte) : (yieldResult r s).lb = s.lb := rfl
@[simp] theorem yieldResult_txt (r : List Byte) : (yieldResult r s).txt = s.txt := rfl
@[simp] theorem yieldResult_txtv (r : List Byte) : (yieldResult r s).txtv = s.txtv := rfl
@[simp] theorem yieldResult_txd (r : List Byte) : (yieldResult r s).txd = s.txd := rfl
@[simp] theorem yieldResult_req (r : List Byte) : (yieldResult r s).req = s.req := rfl
@[simp] theorem yieldResult_ack (r : List Byte) : (yieldResult r s).ack = s.ack := rfl
@[simp] theorem yieldResult_ackSync (r : List Byte) : (yieldResult r s).ackSync = s.ackSync := rfl
@[simp] theorem yieldResult_reqSync (r : List Byte) : (yieldResult r s).reqSync = s.reqSync := rfl
@[simp] theorem yieldResult_wire (r : List Byte) : (yieldResult r s).wire = s.wire := rfl
@[simp] theorem yieldResult_taken (r : List Byte) : (yieldResult r s).taken = s.taken := rfl
@[simp] theorem yieldResult_result (r : List Byte) : (yieldResult r s).result = r := rfl
@[simp] theorem yieldResult_inputs (r : List Byte) : (yieldResult r s).inputs = s.inputs := rfl
@[simp] theorem yieldResult_draws (r : List Byte) : (yieldResult r s).draws = s.draws := rfl
@[simp] theorem yieldResult_drawCount (r : List Byte) : (yieldResult r s).drawCount = s.drawCount := rfl
@[simp] theorem yieldResult_pclkRuns (r : List Byte) : (yieldResult r s).pclkRuns = s.pclkRuns := rfl

/-! `setPclk` -/
@[simp] theorem setPclk_cfg (r : Bool) : (setPclk r s).cfg = s.cfg := rfl
@[simp] theorem setPclk_state (r : Bool) : (setPclk r s).state = s.state := rfl
@[simp] theorem setPclk_fault (r : Bool) : (setPclk r s).fault = s.fault := rfl
@[simp] theorem setPclk_wr (r : Bool) : (setPclk r s).wr = s.wr := rfl
@[simp] theorem setPclk_cursor (r : Bool) : (setPclk r s).cursor = s.cursor := rfl
@[simp] theorem setPclk_formatted (r : Bool) : (setPclk r s).formatted = s.formatted := rfl
@[simp] theorem setPclk_highByteNext (r : Bool) : (setPclk r s).highByteNext = s.highByteNext := rfl
@[simp] theorem setPclk_ckind (r : Bool) : (setPclk r s).ckind = s.ckind := rfl
@[simp] theorem setPclk_clen (r : Bool) : (setPclk r s).clen = s.clen := rfl
@[simp] theorem setPclk_cidx (r : Bool) : (setPclk r s).cidx = s.cidx := rfl
@[simp] theorem setPclk_chk (r : Bool) : (setPclk r s).chk = s.chk := rfl
@[simp] theorem setPclk_lb (r : Bool) : (setPclk r s).lb = s.lb := rfl
@[simp] theorem setPclk_txt (r : Bool) : (setPclk r s).txt = s.txt := rfl
@[simp] theorem setPclk_txtv (r : Bool) : (setPclk r s).txtv = s.txtv := rfl
@[simp] theorem setPclk_txd (r : Bool) : (setPclk r s).txd = s.txd := rfl
@[simp] theorem setPclk_req (r : Bool) : (setPclk r s).req = s.req := rfl
@[simp] theorem setPclk_ack (r : Bool) : (setPclk r s).ack = s.ack := rfl
@[simp] theorem setPclk_ackSync (r : Bool) : (setPclk r s).ackSync = s.ackSync := rfl
@[simp] theorem setPclk_reqSync (r : Bool) : (setPclk r s).reqSync = s.reqSync := rfl
@[simp] theorem setPclk_wire (r : Bool) : (setPclk r s).wire = s.wire := rfl
@[simp] theorem setPclk_taken (r : Bool) : (setPclk r s).taken = s.taken := rfl
@[simp] theorem setPclk_result (r : Bool) : (setPclk r s).result = s.result := rfl
@[simp] theorem setPclk_inputs (r : Bool) : (setPclk r s).inputs = s.inputs := rfl
@[simp] theorem setPclk_draws (r : Bool) : (setPclk r s).draws = s.draws := rfl
@[simp] theorem setPclk_drawCount (r : Bool) : (setPclk r s).drawCount = s.drawCount := rfl
@[simp] theorem setPclk_pclkRuns (r : Bool) : (setPclk r s).pclkRuns = r := rfl

/-! `popInput` -/
@[simp] theorem popInput_cfg : (popInput s).cfg = s.cfg := rfl
@[simp] theorem popInput_state : (popInput s).state = s.state := rfl
@[simp] theorem popInput_fault : (popInput s).fault = s.fault := rfl
@[simp] theorem popInput_wr : (popInput s).wr = s.wr := rfl
@[simp] theorem popInput_cursor : (popInput s).cursor = s.cursor := rfl
@[simp] theorem popInput_formatted : (popInput s).formatted = s.formatted := rfl
@[simp] theorem popInput_highByteNext : (popInput s).highByteNext = s.highByteNext := rfl
@[simp] theorem popInput_ckind : (popInput s).ckind = s.ckind := rfl
@[simp] theorem popInput_clen : (popInput s).clen = s.clen := rfl
@[simp] theorem popInput_cidx : (popInput s).cidx = s.cidx := rfl
@[simp] theorem popInput_chk : (popInput s).chk = s.chk := rfl
@[simp] theorem popInput_lb : (popInput s).lb = s.lb := rfl
@[simp] theorem popInput_txt : (popInput s).txt = s.txt := rfl
@[simp] theorem popInput_txtv : (popInput s).txtv = s.txtv := rfl
@[simp] theorem popInput_txd : (popInput s).txd = s.txd := rfl
@[simp] theorem popInput_req : (popInput s).req = s.req := rfl
@[simp] theorem popInput_ack : (popInput s).ack = s.ack := rfl
@[simp] theorem popInput_ackSync : (popInput s).ackSync = s.ackSync := rfl
@[simp] theorem popInput_reqSync : (popInput s).reqSync = s.reqSync := rfl
@[simp] theorem popInput_wire : (popInput s).wire = s.wire := rfl
@[simp] theorem popInput_taken : (popInput s).taken = s.taken := rfl
@[simp] theorem popInput_result : (popInput s).result = s.result := rfl
@[simp] theorem popInput_inputs : (popInput s).inputs = s.inputs.tail := rfl
@[simp] theorem popInput_draws : (popInput s).draws = s.draws := rfl
@[simp] theorem popInput_drawCount : (popInput s).drawCount = s.drawCount := rfl
@[simp] theorem popInput_pclkRuns : (popInput s).pclkRuns = s.pclkRuns := rfl

/-! `resetBlock` -/
@[simp] theorem resetBlock_cfg : (resetBlock s).cfg = s.cfg := rfl
@[simp] theorem resetBlock_state : (resetBlock s).state = .idle := rfl
@[simp] theorem resetBlock_fault : (resetBlock s).fault = 0#4 := rfl
@[simp] theorem resetBlock_wr : (resetBlock s).wr = 0#11 := rfl
@[simp] theorem resetBlock_cursor : (resetBlock s).cursor = 0#11 := rfl
@[simp] theorem resetBlock_formatted : (resetBlock s).formatted = false := rfl
@[simp] theorem resetBlock_highByteNext : (resetBlock s).highByteNext = true := rfl
@[simp] theorem resetBlock_ckind : (resetBlock s).ckind = .newFrame := rfl
@[simp] theorem resetBlock_clen : (resetBlock s).clen = 0#8 := rfl
@[simp] theorem resetBlock_cidx : (resetBlock s).cidx = 0#9 := rfl
@[simp] theorem resetBlock_chk : (resetBlock s).chk = 0#8 := rfl
@[simp] theorem resetBlock_lb : (resetBlock s).lb = [] := rfl
@[simp] theorem resetBlock_txt : (resetBlock s).txt = [] := rfl
@[simp] theorem resetBlock_txtv : (resetBlock s).txtv = 0#254 := rfl
@[simp] theorem resetBlock_txd : (resetBlock s).txd = 0#8 := rfl
@[simp] theorem resetBlock_req : (resetBlock s).req = false := rfl
@[simp] theorem resetBlock_ack : (resetBlock s).ack = false := rfl
@[simp] theorem resetBlock_ackSync : (resetBlock s).ackSync = List.replicate s.cfg.syncStages false := rfl
@[simp] theorem resetBlock_reqSync : (resetBlock s).reqSync = List.replicate s.cfg.syncStages false := rfl
@[simp] theorem resetBlock_wire : (resetBlock s).wire = s.wire := rfl
@[simp] theorem resetBlock_taken : (resetBlock s).taken = s.taken := rfl
@[simp] theorem resetBlock_result : (resetBlock s).result = [] := rfl
@[simp] theorem resetBlock_inputs : (resetBlock s).inputs = s.inputs := rfl
@[simp] theorem resetBlock_draws : (resetBlock s).draws = s.draws := rfl
@[simp] theorem resetBlock_drawCount : (resetBlock s).drawCount = s.drawCount := rfl
@[simp] theorem resetBlock_pclkRuns : (resetBlock s).pclkRuns = s.pclkRuns := rfl

end Sys2Proof.Machine
end

