-- ==== Sys2Proof/Laws/Ops.lean ====
section
/-! SUPPORT. For each shared operation, everything it can do, said once: provers cite these instead of unfolding. -/
namespace Sys2Proof.Machine

theorem andThen_next {r : Result} {k : State → Result} {t : State} :
    andThen r k = .next t ↔ ∃ u, r = .next u ∧ k u = .next t := by
  cases r <;> simp [andThen]

@[simp] theorem andThen_next_left (s : State) (k : State → Result) : andThen (.next s) k = k s := rfl

@[simp] theorem nextState?_next (s : State) : nextState? (.next s) = some s := rfl

theorem live_iff (s : State) : live s = true ↔ s.fault = 0#4 := by simp [live]

theorem live_eq_false_iff (s : State) : live s = false ↔ s.fault ≠ 0#4 := by simp [live]

/-- A faulted block ignores the operation; a live one performs it. -/
theorem whenLive_next {s t : State} {k : Result} :
    whenLive s k = .next t ↔ (s.fault = 0#4 ∧ k = .next t) ∨ (s.fault ≠ 0#4 ∧ t = s) := by
  unfold whenLive
  by_cases h : s.fault = 0#4
  · simp [h, (live_iff s).2 h]
  · simp [h, (live_eq_false_iff s).2 h, eq_comm]

theorem readLine_some {s : State} {i : LineIndex} {v : Byte} :
    readLine s i = some v ↔ i < s.wr ∧ s.lb.read i.toNat = some v := by
  simp [readLine]

theorem writeLine_next {s t : State} {i : LineIndex} {v : Byte} :
    writeLine i v s = .next t ↔ i < lineBytes s.cfg ∧ t = { s with lb := s.lb.write i.toNat v } := by
  unfold writeLine
  by_cases h : i < lineBytes s.cfg <;> simp [h, eq_comm]

/-- A send attempt takes one draw, and sends or does nothing else. -/
theorem attempt_next {s t : State} {hit : State → Result} :
    attempt s hit = .next t ↔
      (ready s = true ∧ hit (consumeDraw s) = .next t) ∨ (ready s = false ∧ t = consumeDraw s) := by
  unfold attempt
  cases ready s <;> simp [eq_comm]

theorem ready_cons {s : State} {d : Draw} {l : List Draw} (h : s.draws = d :: l) : ready s = drawValue s d := by
  simp [ready, h]

theorem ready_nil {s : State} (h : s.draws = []) : ready s = Config.freeReady s.drawCount := by
  simp [ready, h]

/-! ### Memories -/

/-- A text write stores one byte and marks it; every other entry keeps its byte and its mark. -/
theorem readText_writeText (s : State) (i j : Nat) (v : Byte) :
    readText (writeText i v s) j = if j = i then some v else readText s j :=
  Memory.read_write s.txt i j v

theorem textMarked_writeText (s : State) {i : Nat} (v : Byte) (hi : i < 254) (j : Nat) :
    textMarked (writeText i v s) j = (decide (j = i) || textMarked s j) := by
  simp only [textMarked, writeText_txtv, BitVec.getLsbD_or, BitVec.getLsbD_shiftLeft, BitVec.getLsbD_one]
  rw [Bool.or_comm]
  congr 1
  rcases Nat.lt_trichotomy j i with h | h | h
  · simp [h, Nat.ne_of_lt h]
  · subst h; simp [hi]
  · have : j - i ≠ 0 := by omega
    simp [Nat.ne_of_gt h, this]

theorem allMarked_iff (s : State) (n : Nat) : allMarked s n = true ↔ ∀ i < n, textMarked s i = true := by
  simp [allMarked]

/-! ### Sub-steps -/

/-- FORMAT encodes the byte at `cursor` in place and sets `formatted` (42_scheduler.md R116). -/
theorem formatStep_next {s t : State} :
    formatStep s = .next t ↔ ∃ v, s.cursor < s.wr ∧ s.lb.read s.cursor.toNat = some v ∧
      s.cursor < lineBytes s.cfg ∧
      t = setFormatted { s with lb := s.lb.write s.cursor.toNat (appliedEncoder s v) } := by
  unfold formatStep
  cases h : readLine s s.cursor with
  | none =>
    simp only [reduceCtorEq, false_iff]
    rintro ⟨v, h1, h2, -⟩
    simp [readLine, h1, h2] at h
  | some v =>
    obtain ⟨h1, h2⟩ := readLine_some.1 h
    simp only [andThen_next, writeLine_next, Host.Outcome.next.injEq]
    constructor
    · rintro ⟨u, ⟨h3, rfl⟩, rfl⟩
      exact ⟨v, h1, h2, h3, rfl⟩
    · rintro ⟨w, -, hw, h3, rfl⟩
      obtain rfl : v = w := Option.some.inj (h2.symm.trans hw)
      exact ⟨_, ⟨h3, rfl⟩, rfl⟩

/-- SEND emits the byte at `cursor` and moves on (R117). -/
theorem sendStep_next {s t : State} :
    sendStep s = .next t ↔ ∃ v, s.cursor < s.wr ∧ s.lb.read s.cursor.toNat = some v ∧
      t = sentFlags (bumpCursor (emit v s)) := by
  unfold sendStep
  cases h : readLine s s.cursor with
  | none =>
    simp only [reduceCtorEq, false_iff]
    rintro ⟨v, h1, h2, -⟩
    simp [readLine, h1, h2] at h
  | some v =>
    obtain ⟨h1, h2⟩ := readLine_some.1 h
    constructor
    · rintro h3
      exact ⟨v, h1, h2, by simpa [eq_comm] using h3⟩
    · rintro ⟨w, -, hw, rfl⟩
      obtain rfl : v = w := Option.some.inj (h2.symm.trans hw)
      rfl

/-- The end of a line's last send leaves every field but `state`. -/
theorem finishLine_eq (before s : State) :
    finishLine before s = if before.cursor.toNat + 1 = before.wr.toNat then setCtl .idle s else s := rfl

/-- A DIRECT_STEP that sends (R126). -/
theorem directSend_next {s t : State} {v : Byte} :
    directSend v s = .next t ↔ s.cursor < lineBytes s.cfg ∧
      t = toggleHighByte (bumpCursor (emit v { s with lb := s.lb.write s.cursor.toNat v })) := by
  unfold directSend
  simp only [andThen_next, writeLine_next, Host.Outcome.next.injEq]
  constructor
  · rintro ⟨u, ⟨h, rfl⟩, rfl⟩
    exact ⟨h, rfl⟩
  · rintro ⟨h, rfl⟩
    exact ⟨_, ⟨h, rfl⟩, rfl⟩

/-! ### The frame position -/

/-- CMD_STEP's bookkeeping leaves every field but `chk`, `cidx`, `state`. -/
theorem advanceFrame_eq (v : Byte) (s : State) :
    advanceFrame v s =
      { s with
        chk := if 2 ≤ s.cidx.toNat ∧ s.cidx.toNat ≤ s.clen.toNat + 1 then s.chk ^^^ v else s.chk
        cidx := if s.cidx.toNat = s.clen.toNat + 2 then 0#9 else s.cidx + 1#9
        state := if s.cidx.toNat = s.clen.toNat + 2 then .idle else s.state } := by
  unfold advanceFrame foldChk
  by_cases h1 : 2 ≤ s.cidx.toNat ∧ s.cidx.toNat ≤ s.clen.toNat + 1 <;>
    by_cases h2 : s.cidx.toNat = s.clen.toNat + 2 <;> simp [h1, h2]

/-! ### Clock edges -/

theorem shiftIn_length (x : Bool) (l : List Bool) : (shiftIn x l).length = l.length := by
  simp [shiftIn]

/-- A SCLK edge touches the SCLK-side synchroniser, and `ack` and `taken` where the sink takes the byte. -/
theorem sclkEdge_eq (canAccept : Bool) (s : State) :
    sclkEdge canAccept s =
      { s with
        reqSync := shiftIn s.req s.reqSync
        taken := if canAccept && (reqS s != s.ack) then s.taken ++ [s.txd] else s.taken
        ack := if canAccept && (reqS s != s.ack) then !s.ack else s.ack } := by
  unfold sclkEdge takeByte
  cases h : canAccept && (reqS s != s.ack) <;> simp

end Sys2Proof.Machine
end

