-- ==== Sys2Proof/Laws/Exec.lean ====
section
/-! SUPPORT. One inversion lemma per meaning: if the operation answers a next state, which one. -/
namespace Sys2Proof.Machine

variable {s t : State}

/-- An operation that answers `next u` answers `next t` exactly where `t` is `u`. -/
theorem next_iff {u : State} : (Host.Outcome.next u : Result) = .next t ↔ t = u := by
  rw [Host.Outcome.next.injEq, eq_comm]

theorem execNewframe_next : execNewframe s = .next t ↔
    (s.fault ≠ 0#4 ∧ t = s) ∨
    (s.fault = 0#4 ∧ s.state ≠ .idle ∧ t = raiseFault .protocol s) ∨
    (s.fault = 0#4 ∧ s.state = .idle ∧ t = startCommand .newFrame 4#8 s) := by
  unfold execNewframe
  rw [whenLive_next]
  by_cases h1 : s.fault = 0#4 <;> by_cases h2 : s.state = .idle <;> simp [h1, h2, next_iff, -Host.Outcome.next.injEq]

theorem execTextwr_next {a b : Byte} : execTextwr a b s = .next t ↔
    (s.fault ≠ 0#4 ∧ t = s) ∨
    (s.fault = 0#4 ∧ s.state = .cmd ∧ t = raiseFault .protocol s) ∨
    (s.fault = 0#4 ∧ s.state ≠ .cmd ∧ 254 ≤ a.toNat ∧ t = raiseFault .textIndex s) ∨
    (s.fault = 0#4 ∧ s.state ≠ .cmd ∧ a.toNat < 254 ∧ t = writeText a.toNat b s) := by
  unfold execTextwr textIndexOk Config.maxText
  rw [whenLive_next]
  by_cases h1 : s.fault = 0#4 <;> by_cases h2 : s.state = .cmd <;> by_cases h3 : a.toNat < 254 <;>
    simp [h1, h2, h3, Nat.not_le.2, Nat.not_lt.1, next_iff, -Host.Outcome.next.injEq]

theorem execDebug_next {n : Byte} : execDebug n s = .next t ↔
    (s.fault ≠ 0#4 ∧ t = s) ∨
    (s.fault = 0#4 ∧ s.state ≠ .idle ∧ t = raiseFault .protocol s) ∨
    (s.fault = 0#4 ∧ s.state = .idle ∧ n = 0#8 ∧ t = s) ∨
    (s.fault = 0#4 ∧ s.state = .idle ∧ 254 < n.toNat ∧ t = raiseFault .textLength s) ∨
    (s.fault = 0#4 ∧ s.state = .idle ∧ n ≠ 0#8 ∧ n.toNat ≤ 254 ∧ allMarked s n.toNat = false ∧
      t = raiseFault .textUnwritten s) ∨
    (s.fault = 0#4 ∧ s.state = .idle ∧ n ≠ 0#8 ∧ n.toNat ≤ 254 ∧ allMarked s n.toNat = true ∧
      t = startCommand .debug (n + 1#8) s) := by
  unfold execDebug Config.maxText
  rw [whenLive_next]
  by_cases h3 : n = 0#8
  · subst h3
    by_cases h1 : s.fault = 0#4 <;> by_cases h2 : s.state = .idle <;>
      simp [h1, h2, next_iff, -Host.Outcome.next.injEq]
  · by_cases h4 : 254 < n.toNat
    · by_cases h1 : s.fault = 0#4 <;> by_cases h2 : s.state = .idle <;>
        simp [h1, h2, h3, h4, Nat.not_le.2 h4, next_iff, -Host.Outcome.next.injEq]
    · by_cases h1 : s.fault = 0#4 <;> by_cases h2 : s.state = .idle <;>
        cases h5 : allMarked s n.toNat <;>
        simp [h1, h2, h3, h4, Nat.not_lt.1 h4, next_iff, -Host.Outcome.next.injEq]

theorem execLinestart_next : execLinestart s = .next t ↔
    (s.fault ≠ 0#4 ∧ t = s) ∨
    (s.fault = 0#4 ∧ s.state ≠ .idle ∧ t = raiseFault .protocol s) ∨
    (s.fault = 0#4 ∧ s.state = .idle ∧ t = openLine s) := by
  unfold execLinestart
  rw [whenLive_next]
  by_cases h1 : s.fault = 0#4 <;> by_cases h2 : s.state = .idle <;> simp [h1, h2, next_iff, -Host.Outcome.next.injEq]

theorem execLineend_next : execLineend s = .next t ↔
    (s.fault ≠ 0#4 ∧ t = s) ∨
    (s.fault = 0#4 ∧ s.state ≠ .line ∧ t = raiseFault .protocol s) ∨
    (s.fault = 0#4 ∧ s.state = .line ∧ s.wr ≠ lineBytes s.cfg ∧ t = raiseFault .lineShort s) ∨
    (s.fault = 0#4 ∧ s.state = .line ∧ s.wr = lineBytes s.cfg ∧ s.cursor = s.wr ∧ t = setCtl .idle s) ∨
    (s.fault = 0#4 ∧ s.state = .line ∧ s.wr = lineBytes s.cfg ∧ s.cursor ≠ s.wr ∧ t = setCtl .drain s) := by
  unfold execLineend
  rw [whenLive_next]
  by_cases h1 : s.fault = 0#4 <;> by_cases h2 : s.state = .line <;>
    by_cases h3 : s.wr = lineBytes s.cfg <;> by_cases h4 : s.cursor = s.wr <;> simp [h1, h2, h3, h4, next_iff, -Host.Outcome.next.injEq]
  all_goals simp_all [next_iff, -Host.Outcome.next.injEq]

theorem execCapture_next {b : Byte} : execCapture b s = .next t ↔
    (s.fault ≠ 0#4 ∧ t = s) ∨
    (s.fault = 0#4 ∧ s.state ≠ .line ∧ t = raiseFault .protocol s) ∨
    (s.fault = 0#4 ∧ s.state = .line ∧ s.wr = lineBytes s.cfg ∧ t = raiseFault .lineOverflow s) ∨
    (s.fault = 0#4 ∧ s.state = .line ∧ s.wr ≠ lineBytes s.cfg ∧ (s.cfg.mode = .direct ∧ s.cursor < s.wr) ∧
      t = raiseFault .directOverrun s) ∨
    (s.fault = 0#4 ∧ s.state = .line ∧ s.wr < lineBytes s.cfg ∧ ¬ (s.cfg.mode = .direct ∧ s.cursor < s.wr) ∧
      t = bumpWr { s with lb := s.lb.write s.wr.toNat b }) := by
  unfold execCapture
  rw [whenLive_next]
  by_cases h1 : s.fault = 0#4
  · by_cases h2 : s.state = .line
    · by_cases h3 : s.wr = lineBytes s.cfg
      · simp [h1, h2, h3, next_iff, -Host.Outcome.next.injEq]
      · by_cases h4 : s.cfg.mode = .direct ∧ s.cursor < s.wr
        · simp [h1, h2, h3, h4, next_iff, -Host.Outcome.next.injEq]
        · simp only [h1, h2, h3, h4, ne_eq, not_true_eq_false, if_false, andThen_next, writeLine_next,
            next_iff, true_and, false_and, or_false, false_or, not_false_eq_true]
          constructor
          · rintro ⟨u, ⟨h, rfl⟩, rfl⟩
            exact ⟨h, rfl⟩
          · rintro ⟨h, rfl⟩
            exact ⟨_, ⟨h, rfl⟩, rfl⟩
    · simp [h1, h2, next_iff, -Host.Outcome.next.injEq]
  · simp [h1]

theorem execSlot_next : execSlot s = .next t ↔
    (s.fault ≠ 0#4 ∧ t = s) ∨
    (s.fault = 0#4 ∧ (s.state ≠ .line ∨ s.cfg.mode = .direct ∨ s.cursor = s.wr) ∧ t = s) ∨
    (s.fault = 0#4 ∧ s.state = .line ∧ s.cfg.mode = .buffered ∧ s.cursor ≠ s.wr ∧ s.formatted = false ∧
      formatStep s = .next t) ∨
    (s.fault = 0#4 ∧ s.state = .line ∧ s.cfg.mode = .buffered ∧ s.cursor ≠ s.wr ∧ s.formatted = true ∧
      attempt s sendStep = .next t) := by
  unfold execSlot
  rw [whenLive_next]
  by_cases h1 : s.fault = 0#4 <;> by_cases h2 : s.state = .line <;> cases h3 : s.cfg.mode <;>
    by_cases h4 : s.cursor = s.wr <;> cases h5 : s.formatted <;> simp [h1, h2, h4, next_iff, -Host.Outcome.next.injEq]

theorem execDrainStep_next : execDrainStep s = .next t ↔
    (¬ (s.fault = 0#4 ∧ s.state = .drain ∧ s.cfg.mode = .buffered) ∧ t = s) ∨
    (s.fault = 0#4 ∧ s.state = .drain ∧ s.cfg.mode = .buffered ∧ s.formatted = false ∧ formatStep s = .next t) ∨
    (s.fault = 0#4 ∧ s.state = .drain ∧ s.cfg.mode = .buffered ∧ s.formatted = true ∧ ready s = false ∧
      t = consumeDraw s) ∨
    (s.fault = 0#4 ∧ s.state = .drain ∧ s.cfg.mode = .buffered ∧ s.formatted = true ∧ ready s = true ∧
      ∃ u, sendStep (consumeDraw s) = .next u ∧ t = finishLine s u) := by
  unfold execDrainStep
  by_cases h1 : s.fault = 0#4 <;> by_cases h2 : s.state = .drain <;> cases h3 : s.cfg.mode <;>
    cases h5 : s.formatted <;>
    simp [h1, h2, live, attempt_next, andThen_next, next_iff, -Host.Outcome.next.injEq]
  cases h6 : ready s <;> simp [-Host.Outcome.next.injEq]

theorem execDirectStep_next : execDirectStep s = .next t ↔
    (¬ (s.fault = 0#4 ∧ s.cfg.mode = .direct ∧ (s.state = .line ∨ s.state = .drain) ∧ s.cursor < s.wr) ∧ t = s) ∨
    (s.fault = 0#4 ∧ s.cfg.mode = .direct ∧ (s.state = .line ∨ s.state = .drain) ∧ s.cursor < s.wr ∧
      ∃ raw, s.lb.read s.cursor.toNat = some raw ∧
        ((ready s = false ∧ t = consumeDraw s) ∨
         (ready s = true ∧ ∃ u, directSend (appliedEncoder s raw) (consumeDraw s) = .next u ∧
           t = if s.state = .drain then finishLine s u else u))) := by
  unfold execDirectStep
  by_cases h : s.fault = 0#4 ∧ s.cfg.mode = .direct ∧ (s.state = .line ∨ s.state = .drain) ∧ s.cursor < s.wr
  · have hc : (live s && decide (s.cfg.mode = .direct) && (decide (s.state = .line) || decide (s.state = .drain))
        && decide (s.cursor < s.wr)) = true := by
      simp [live, h.1, h.2.1, h.2.2.2]; exact h.2.2.1
    rw [if_pos hc]
    simp only [h, not_true_eq_false, false_and, true_and, false_or]
    cases hr : readLine s s.cursor with
    | none =>
      simp only [reduceCtorEq, false_iff]
      rintro ⟨raw, h2, -⟩
      simp [readLine, h.2.2.2, h2] at hr
    | some raw =>
      obtain ⟨-, h2⟩ := readLine_some.1 hr
      simp only [h2, Option.some.injEq, exists_eq_left', attempt_next, andThen_next, next_iff]
      rw [or_comm]
  · have hc : (live s && decide (s.cfg.mode = .direct) && (decide (s.state = .line) || decide (s.state = .drain))
        && decide (s.cursor < s.wr)) = false := by
      by_contra hc
      simp [live, Bool.and_eq_true, and_assoc] at hc
      exact h hc
    rw [if_neg (by simp [hc])]
    simp only [h, not_false_eq_true, true_and, next_iff]
    constructor
    · rintro rfl; exact .inl rfl
    · rintro (h2 | h2)
      · exact h2
      · exact absurd ⟨h2.1, h2.2.1, h2.2.2.1, h2.2.2.2.1⟩ h

theorem execCmdStep_next : execCmdStep s = .next t ↔
    (¬ (s.fault = 0#4 ∧ s.state = .cmd) ∧ t = s) ∨
    (s.fault = 0#4 ∧ s.state = .cmd ∧ ∃ v, frameByte s = .ok v ∧
      ((ready s = false ∧ t = consumeDraw s) ∨
       (ready s = true ∧ t = advanceFrame v (emit v (consumeDraw s))))) := by
  unfold execCmdStep
  by_cases h1 : s.fault = 0#4 <;> by_cases h2 : s.state = .cmd <;> simp [h1, h2, live, next_iff, -Host.Outcome.next.injEq]
  cases hf : frameByte s with
  | error f => simp
  | ok v =>
    simp only [attempt_next, next_iff, Except.ok.injEq, exists_eq_left']
    rw [or_comm]

theorem execWireDebug_next {n : Byte} : execWireDebug n s = .next t ↔
    (n = 0#8 ∧ t = yieldResult [] s) ∨
    (n ≠ 0#8 ∧ n.toNat ≤ 254 ∧ ∃ x, textBytes s.txt n.toNat = some x ∧
      t = yieldResult (frameOf (debugPayload x)) s) := by
  unfold execWireDebug Config.maxText
  by_cases h1 : n = 0#8
  · simp [h1, next_iff, -Host.Outcome.next.injEq]
  · by_cases h2 : 254 < n.toNat
    · simp [h1, h2]
    · cases h3 : textBytes s.txt n.toNat <;> simp [h1, h2, Nat.not_lt.1 h2, next_iff, -Host.Outcome.next.injEq]

end Sys2Proof.Machine
end

