-- ==== Sys2Proof/Laws/PerInstr.lean ====
section
/-! SUPPORT. Facts about every operation as syntax, one lemma per constructor. -/

/-- The encoding of an operation is in the encoding space the opcode table gives its row (30_encoding.md R63). -/
def Sys2Proof.Laws.EncodingSpace.Statement (i : Sys2Proof.Instr) : Prop :=
  (Sys2Proof.encode i).space = i.space

namespace Sys2Proof.Laws.EncodingSpace

theorem nop : Statement .nop := rfl
theorem newframe : Statement .newframe := rfl
theorem textwr (a b : Byte) : Statement (.textwr a b) := rfl
theorem debug (n : Byte) : Statement (.debug n) := rfl
theorem linestart : Statement .linestart := rfl
theorem lineend : Statement .lineend := rfl
theorem capture (b : Byte) : Statement (.capture b) := rfl
theorem slot : Statement .slot := rfl
theorem grayscaleFirst (b : Byte) : Statement (.grayscaleFirst b) := rfl
theorem grayscaleSecond (b : Byte) : Statement (.grayscaleSecond b) := rfl
theorem rgbHigh (b : Byte) : Statement (.rgbHigh b) := rfl
theorem rgbLow (b : Byte) : Statement (.rgbLow b) := rfl
theorem cmdStep : Statement .cmdStep := rfl
theorem drainStep : Statement .drainStep := rfl
theorem directStep : Statement .directStep := rfl
theorem wireNewframe : Statement .wireNewframe := rfl
theorem wireDebug (n : Byte) : Statement (.wireDebug n) := rfl

end Sys2Proof.Laws.EncodingSpace
end

