-- ==== Sys2Proof/Laws/Step.lean ====
section
/-! SUPPORT. Everything a cycle, a reset and a step can do, said once: if it answers a next state, which one. -/
namespace Sys2Proof.Machine

variable {s t : State}

/-- A cycle is its first event, its second event, and the clock edge. -/
theorem runCycle_next {p : PortSample} : runCycle p s = .next t ↔
    ∃ u v, firstOfCycle p.slot s = .next u ∧ secondOfCycle p u = .next v ∧ t = pclkEdge v := by
  simp only [runCycle, andThen_next, next_iff]
  exact ⟨fun ⟨u, h1, v, h2, h3⟩ => ⟨u, v, h1, h2, h3⟩, fun ⟨u, v, h1, h2, h3⟩ => ⟨u, h1, v, h2, h3⟩⟩

/-- The first event of a cycle is the enabled internal step, else a slot, else nothing. -/
theorem firstOfCycle_next {slot : Bool} : firstOfCycle slot s = .next t ↔
    (∃ i, enabledStep s = some i ∧ exec i s = .next t) ∨
    (enabledStep s = none ∧ slot = true ∧ exec .slot s = .next t) ∨
    (enabledStep s = none ∧ slot = false ∧ t = s) := by
  unfold firstOfCycle
  cases enabledStep s <;> cases slot <;> simp [next_iff, -Host.Outcome.next.injEq]

/-- The operation a code decodes to belongs to the code's own encoding space. -/
theorem decode_space {c : Code} {i : Instr} (h : decode c = .ok i) : i.space = c.space := by
  cases c <;> simp only [decode, decodeCtl, decodeStrobe, decodeEncsel, decodeInternal, decodeWire] at h <;>
    repeat' split at h
  all_goals cases h <;> rfl

/-- A code is performed, or (an illegal control word) raises F_ILLEGAL, or (a faulted block, a strobe at 0) changes nothing. -/
theorem runCode_next {c : Code} (h : runCode c s = .next t) :
    (∃ i, decode c = .ok i ∧ exec i s = .next t) ∨
    (c.space = .ctrl24 ∧ s.fault = 0#4 ∧ t = raiseFault .illegal s) ∨ t = s := by
  unfold runCode at h
  split at h
  · exact .inl ⟨_, ‹_›, h⟩
  · cases c with
    | ctrl24 w =>
      rcases whenLive_next.1 h with ⟨hf, h⟩ | ⟨-, rfl⟩
      · exact .inr (.inl ⟨rfl, hf, next_iff.1 h⟩)
      · exact .inr (.inr rfl)
    | strobe x => exact .inr (.inr (next_iff.1 h))
    | cap8 b => cases h
    | encsel sel b => cases h
    | internal k => cases h
    | wire ct n => cases h

/-- The second event of a cycle is a code, or a collision, or nothing. -/
theorem secondOfCycle_next {p : PortSample} (h : secondOfCycle p s = .next t) :
    (∃ c, (c.space = .ctrl24 ∨ c.space = .cap8) ∧ runCode c s = .next t) ∨
    (s.fault = 0#4 ∧ t = raiseFault .protocol s) ∨ t = s := by
  unfold secondOfCycle at h
  split at h
  · rcases whenLive_next.1 h with ⟨hf, h⟩ | ⟨-, rfl⟩
    · exact .inr (.inl ⟨hf, next_iff.1 h⟩)
    · exact .inr (.inr rfl)
  · exact .inl ⟨_, .inl rfl, h⟩
  · exact .inl ⟨_, .inr rfl, h⟩
  · exact .inr (.inr (next_iff.1 h))

/-- A reset needs both resets and both clocks; neither reset changes nothing. -/
theorem runReset_next {a b : Bool} : runReset a b s = .next t ↔
    (a = true ∧ b = true ∧ s.pclkRuns = true ∧ t = resetBlock s) ∨ (a = false ∧ b = false ∧ t = s) := by
  unfold runReset
  cases a <;> cases b <;> cases s.pclkRuns <;> simp [next_iff, -Host.Outcome.next.injEq]

/-- A step of a legal instance: a quiet cycle or, PCLK stopped, nothing where no move is listed; else the next move, taken
off the list, performed unless it needs a PCLK cycle and PCLK is stopped. -/
theorem step_next : step s = .next t ↔ legal s.cfg = true ∧
    ((s.inputs = [] ∧ s.pclkRuns = true ∧ runCycle PortSample.quiet s = .next t) ∨
     (s.inputs = [] ∧ s.pclkRuns = false ∧ t = s) ∨
     ∃ e l, s.inputs = e :: l ∧
       ((needsPclk e = true ∧ s.pclkRuns = false ∧ t = popInput s) ∨
        ((needsPclk e = true → s.pclkRuns = true) ∧ runEvent e (popInput s) = .next t))) := by
  unfold step stepInstance
  cases hl : legal s.cfg
  · simp
  · cases hi : s.inputs with
    | nil => cases s.pclkRuns <;> simp [next_iff, -Host.Outcome.next.injEq]
    | cons e l => cases hp : s.pclkRuns <;> cases hn : needsPclk e <;> simp [hn, next_iff, -Host.Outcome.next.injEq]

end Sys2Proof.Machine
end

