-- ==== Sys2Proof/Tests/Slice0.lean ====
section
/-! SUPPORT. Tests: the well-formedness smoke, words written out from the encodings, single steps from the vectors of
spec/95_test_vectors.md (V1 to V19, X1 to X18, tables 2.5 to 2.7), and a witness for the hypotheses of each obligation. -/
namespace Sys2Proof.Tests
open Sys2Proof Sys2Proof.Machine

set_option maxRecDepth 20000

/-! ### Small states -/

/-- `G4` of 95_test_vectors.md 2.8. -/
def g4 : Cfg := { Config.sourceBuild with width := 4#10, height := 2#10 }
/-- `G4`, DIRECT. -/
def g4d : Cfg := { g4 with mode := .direct }
/-- `R2` of 2.8. -/
def r2 : Cfg := { Config.sourceBuild with pixfmt := 0x1#4, width := 2#10, height := 1#10 }
/-- `R2`, DIRECT. -/
def r2d : Cfg := { r2 with mode := .direct }
/-- The shortest grayscale line: two bytes. -/
def g2 : Cfg := { g4 with width := 2#10 }
/-- The source build in RGB565. -/
def sourceRgb : Cfg := { Config.sourceBuild with pixfmt := 0x1#4 }

/-- The block after reset, with `n` draws at which the sink is ready. -/
def atReset (c : Cfg) (n : Nat) : State := { State.resetWith c with draws := List.replicate n .ready }

/-- A line under way: the bytes captured so far, the number sent, and `formatted`. -/
def inLine (c : Cfg) (bytes : List Byte) (sent : Nat) (formatted : Bool) (draws : List Draw) : State :=
  { State.resetWith c with
    state := .line
    lb := bytes.mapIdx fun i b => (i, b)
    wr := BitVec.ofNat 11 bytes.length
    cursor := BitVec.ofNat 11 sent
    formatted := formatted
    highByteNext := sent % 2 == 0
    draws := draws }

/-- A whole line being drained. -/
def inDrain (c : Cfg) (bytes : List Byte) (sent : Nat) (formatted : Bool) (draws : List Draw) : State :=
  { inLine c bytes sent formatted draws with state := .drain }

/-- A new-frame command under way, `k` bytes of its frame emitted; `chk` as R102 leaves it. -/
def inNewframe (c : Cfg) (k : Nat) (chk : Byte) (draws : List Draw) : State :=
  { State.resetWith c with state := .cmd, ckind := .newFrame, clen := 4#8, cidx := BitVec.ofNat 9 k, chk := chk
                           draws := draws }

/-- The text "OK" written. -/
def withText (s : State) : State := { s with txt := [(0, 0x4F#8), (1, 0x4B#8)], txtv := 3#254 }

/-- The debug command of "OK" under way, `k` bytes of its frame emitted. -/
def inDebug (k : Nat) (chk : Byte) (draws : List Draw) : State :=
  withText { State.resetWith g4 with state := .cmd, ckind := .debug, clen := 3#8, cidx := BitVec.ofNat 9 k, chk := chk
                                     draws := draws }

/-- The block after a fault. -/
def faulted (s : State) : State := { s with fault := 2#4 }

/-- What the operation leaves, through `f`. -/
def after {α : Type} (i : Instr) (s : State) (f : State → α) : Option α := (nextState? (exec i s)).map f

/-! ### Well-formedness and legality: an ill-formed term for each check -/

theorem test_wf_refuses_long_debug_frame : (Instr.wireDebug 255#8).wellFormed = false := by decide
theorem test_wf_takes_longest_debug_frame : (Instr.wireDebug 254#8).wellFormed = true := by decide
theorem test_legal_refuses_format : legal { g4 with pixfmt := 0x3#4 } = false := by decide
theorem test_legal_refuses_width_zero : legal { r2 with width := 0#10 } = false := by decide
theorem test_legal_refuses_height_zero : legal { g4 with height := 0#10 } = false := by decide
theorem test_legal_refuses_odd_grayscale : legal { g4 with width := 5#10 } = false := by decide
theorem test_legal_refuses_one_stage : legal { g4 with syncStages := 1 } = false := by decide
theorem test_legal_takes_odd_rgb : legal { r2 with width := 1023#10 } = true := by decide
theorem test_line_bytes : lineBytes Config.sourceBuild = 160#11 ∧ lineBytes sourceRgb = 320#11 ∧
    lineBytes { r2 with width := 1023#10 } = 2046#11 := by decide

/-! ### Words written out from the encodings (30_encoding.md R64 to R75) -/

theorem test_decode_nop : decode (.ctrl24 0b000000000000000000000000#24) = .ok .nop := by decide
theorem test_decode_newframe : decode (.ctrl24 0b000100000000000000000000#24) = .ok .newframe := by decide
theorem test_decode_textwr :
    decode (.ctrl24 0b001000001010010111000011#24) = .ok (.textwr 0xA5#8 0xC3#8) := by decide
theorem test_decode_debug : decode (.ctrl24 0b001100000000000000001001#24) = .ok (.debug 9#8) := by decide
theorem test_decode_linestart : decode (.ctrl24 0b010000000000000000000000#24) = .ok .linestart := by decide
theorem test_decode_lineend : decode (.ctrl24 0b010100000000000000000000#24) = .ok .lineend := by decide
theorem test_decode_capture : decode (.cap8 0b10000001#8) = .ok (.capture 0x81#8) := by decide
theorem test_decode_slot : decode (.strobe 0b1#1) = .ok .slot := by decide
theorem test_decode_encsel :
    decode (.encsel 0b00#2 7#8) = .ok (.grayscaleFirst 7#8) ∧
    decode (.encsel 0b01#2 7#8) = .ok (.grayscaleSecond 7#8) ∧
    decode (.encsel 0b10#2 7#8) = .ok (.rgbHigh 7#8) ∧ decode (.encsel 0b11#2 7#8) = .ok (.rgbLow 7#8) := by decide
theorem test_decode_internal : decode (.internal 0#2) = .ok .cmdStep ∧ decode (.internal 1#2) = .ok .drainStep ∧
    decode (.internal 2#2) = .ok .directStep := by decide
theorem test_decode_wire : decode (.wire 0b00010001#8 0#8) = .ok .wireNewframe ∧
    decode (.wire 0b00010011#8 254#8) = .ok (.wireDebug 254#8) := by decide

/-- X1 to X4, X16b, and the other spaces' spare codes: each refused by name. -/
theorem test_decode_refuses :
    decode (.ctrl24 0x600000#24) = .error .reservedOpcode ∧ decode (.ctrl24 0x610000#24) = .error .reservedOpcode ∧
    decode (.ctrl24 0x110000#24) = .error .reservedField ∧ decode (.ctrl24 0x210000#24) = .error .reservedField ∧
    decode (.ctrl24 0x000001#24) = .error .mustBeZero ∧ decode (.ctrl24 0x300102#24) = .error .mustBeZero ∧
    decode (.strobe 0#1) = .error .slotLow ∧ decode (.internal 3#2) = .error .noSuchStep ∧
    decode (.wire 0x01#8 0#8) = .error .unknownCommandType ∧ decode (.wire 0x13#8 255#8) = .error .textTooLong := by
  decide

theorem test_table_words :
    decodeTableWord 24 0x100000 = some .newframe ∧ decodeTableWord 24 0x20014B = some (.textwr 1#8 0x4B#8) ∧
    decodeTableWord 8 0x41 = some (.capture 0x41#8) ∧ decodeTableWord 1 1 = some .slot ∧
    decodeTableWord 2 1 = some (.grayscaleSecond 0#8) ∧ decodeTableWord 8 0x11 = some .wireNewframe ∧
    decodeTableWord 8 0x13 = some (.wireDebug 0#8) ∧ decodeTableWord 24 0x600000 = none := by decide

/-- The word placed next is the operation the step performs. -/
theorem test_with_fetch_word :
    nextState? (step (State.withFetchWord State.reset 24 0x400000)) = nextState? (exec .linestart State.reset) ∧
    nextState? (step (State.withFetchWord State.reset 24 0x100000)) = nextState? (exec .newframe State.reset) := by
  decide

/-! ### The byte encoder (table 2.5) -/

theorem test_grayscaleFirst : after (.grayscaleFirst 0x01#8) State.reset State.result = some [0x02#8] ∧
    after (.grayscaleFirst 0xFF#8) State.reset State.result = some [0xFE#8] := by decide
theorem test_grayscaleSecond : after (.grayscaleSecond 0x00#8) State.reset State.result = some [0x01#8] := by decide
theorem test_rgbHigh : after (.rgbHigh 0x28#8) State.reset State.result = some [0x20#8] ∧
    after (.rgbHigh 0x00#8) State.reset State.result = some [0x08#8] := by decide
theorem test_rgbLow : after (.rgbLow 0x08#8) State.reset State.result = some [0x29#8] ∧
    after (.rgbLow 0xF7#8) State.reset State.result = some [0xD7#8] := by decide

/-! ### The framer (tables 2.6, 2.7; P1; X7, X11 to X13, X16, X18) -/

theorem test_newframe : after .newframe State.reset (fun t => (t.state, t.ckind, t.clen, t.cidx, t.chk)) =
    some (.cmd, .newFrame, 4#8, 0#9, 0#8) := by decide
theorem test_newframe_needs_idle :
    after .newframe (inLine g4 [0x10#8] 0 false []) (fun t => (t.state, t.fault)) = some (.line, 2#4) := by decide
theorem test_textwr : after (.textwr 0#8 0x41#8) State.reset (fun t => (t.txt, textMarked t 0, textMarked t 1)) =
    some ([(0, 0x41#8)], true, false) := by decide
theorem test_textwr_index : after (.textwr 254#8 0x41#8) State.reset State.fault = some 5#4 ∧
    after (.textwr 254#8 0x41#8) (inNewframe g4 0 0#8 []) State.fault = some 2#4 := by decide
theorem test_debug : after (.debug 2#8) (withText State.reset) (fun t => (t.state, t.ckind, t.clen)) =
    some (.cmd, .debug, 3#8) := by decide
theorem test_debug_faults : after (.debug 255#8) State.reset State.fault = some 6#4 ∧
    after (.debug 3#8) (withText State.reset) State.fault = some 7#4 ∧
    after (.debug 0#8) State.reset id = some State.reset := by decide
theorem test_cmdStep_length : after .cmdStep (inNewframe g4 1 0#8 [.ready]) (fun t => (t.wire, t.cidx, t.chk, t.req)) =
    some ([0x04#8], 2#9, 0#8, true) := by decide
theorem test_cmdStep_last : after .cmdStep (inDebug 5 0x17#8 [.ready]) (fun t => (t.wire, t.state, t.cidx, t.chk)) =
    some ([0x17#8], .idle, 0#9, 0x17#8) := by decide
/-- Table 2.6. -/
theorem test_wireNewframe :
    after .wireNewframe (State.resetWith { r2 with width := 1023#10, height := 1023#10 }) State.result =
      some [0x00#8, 0x04#8, 0x11#8, 0xFF#8, 0xFF#8, 0x1F#8, 0x0E#8] ∧
    after .wireNewframe (State.resetWith { g4 with width := 640#10, height := 480#10 }) State.result =
      some [0x00#8, 0x04#8, 0x11#8, 0x80#8, 0xE0#8, 0x26#8, 0x57#8] := by decide
/-- Table 2.7. -/
theorem test_wireDebug : after (.wireDebug 2#8) (withText State.reset) State.result =
    some [0x00#8, 0x03#8, 0x13#8, 0x4F#8, 0x4B#8, 0x17#8] := by decide
/-- P1. -/
theorem test_print_ok : (nextState? (runOps (expandPrint [0x4F#8, 0x4B#8] ++ List.replicate 6 .cmdStep)
      (atReset Config.sourceBuild 6))).map (fun t => (t.wire, t.state, t.chk)) =
    some ([0x00#8, 0x03#8, 0x13#8, 0x4F#8, 0x4B#8, 0x17#8], .idle, 0x17#8) := by decide

/-! ### The scheduler (V1 to V19, X5 to X10, X14, X15) -/

theorem test_nop : after .nop (inLine g4 [1#8, 2#8, 3#8] 0 false []) id =
    some (inLine g4 [1#8, 2#8, 3#8] 0 false []) := by decide
theorem test_linestart : after .linestart { State.resetWith g4 with wr := 4#11, cursor := 4#11 } id =
    some { State.resetWith g4 with state := .line } := by decide
theorem test_capture : after (.capture 0x00#8) (inLine g4 [] 0 false []) (fun t => (t.lb, t.wr)) =
    some ([(0, 0x00#8)], 1#11) := by decide
theorem test_capture_faults : after (.capture 0x01#8) State.reset State.fault = some 2#4 ∧
    after (.capture 5#8) (inLine g4 [1#8, 2#8, 3#8, 4#8] 0 false []) State.fault = some 3#4 ∧
    after (.capture 0x20#8) (inLine g4d [0x10#8] 0 false []) State.fault = some 8#4 := by decide
theorem test_lineend : after .lineend (inLine g4 [2#8, 1#8, 128#8, 255#8] 4 false []) State.state = some .idle ∧
    after .lineend (inLine g4 [2#8, 1#8, 128#8, 254#8] 1 false []) State.state = some .drain := by decide
theorem test_lineend_faults : after .lineend State.reset State.fault = some 2#4 ∧
    after .lineend (inLine g4 [1#8] 0 false []) State.fault = some 4#4 := by decide
/-- V4, V7, V9 (FORMAT). -/
theorem test_slot_format : after .slot (inLine g4 [0x00#8] 0 false []) (fun t => (t.lb, t.formatted, t.wire)) =
      some ([(0, 0x02#8)], true, []) ∧
    after .slot (inLine g4 [2#8, 1#8] 1 false []) State.lb = some [(0, 2#8), (1, 1#8)] ∧
    after .slot (inLine r2 [0x28#8, 0x08#8] 1 false []) State.lb = some [(0, 0x28#8), (1, 0x29#8)] := by decide
/-- V5, V6 (SEND). -/
theorem test_slot_send : after .slot (inLine g4 [2#8] 0 true [.notReady]) (fun t => (t.wire, t.cursor, t.formatted)) =
      some ([], 0#11, true) ∧
    after .slot (inLine g4 [2#8] 0 true [.ready]) (fun t => (t.wire, t.cursor, t.formatted, t.highByteNext)) =
      some ([0x02#8], 1#11, false, false) := by decide
/-- V12, V13. -/
theorem test_drainStep : after .drainStep (inDrain g4 [2#8, 1#8, 128#8, 255#8] 3 true [.ready])
      (fun t => (t.wire, t.cursor, t.state, t.highByteNext)) = some ([0xFF#8], 4#11, .idle, true) ∧
    after .drainStep (inDrain g4 [2#8, 1#8, 128#8, 255#8] 3 true [.notReady]) (fun t => (t.wire, t.state)) =
      some ([], .drain) := by decide
theorem test_drainStep_format : after .drainStep (inDrain g4 [2#8, 1#8, 128#8, 254#8] 3 false [])
      (fun t => (t.lb.read 3, t.formatted, t.state)) = some (some 0xFF#8, true, .drain) := by decide
/-- V15, V16. -/
theorem test_directStep : after .directStep (inLine r2d [0x00#8] 0 false [.ready])
      (fun t => (t.wire, t.lb, t.cursor, t.highByteNext)) = some ([0x08#8], [(0, 0x08#8)], 1#11, false) ∧
    after .directStep (inLine r2d [0x00#8] 0 false [.notReady]) (fun t => (t.wire, t.lb, t.cursor)) =
      some ([], [(0, 0x00#8)], 0#11) := by decide
/-- P4, the last step. -/
theorem test_directStep_ends : after .directStep (inDrain r2d [8#8, 1#8, 0xF7#8, 0xFF#8] 3 false [.ready])
      (fun t => (t.wire, t.cursor, t.state)) = some ([0xFF#8], 4#11, .idle) := by decide
/-- V3, V14, V17, V18. -/
theorem test_slot_noop :
    exec .slot (inLine g4 [] 0 false []) = .next (inLine g4 [] 0 false []) ∧
    exec .slot (inDrain g4 [2#8, 1#8, 128#8, 255#8] 3 true []) =
      .next (inDrain g4 [2#8, 1#8, 128#8, 255#8] 3 true []) ∧
    exec .slot (inLine r2d [0#8] 0 false []) = .next (inLine r2d [0#8] 0 false []) ∧
    exec .slot State.reset = .next State.reset := ⟨rfl, rfl, rfl, rfl⟩
/-- X1 to X4, X16b. -/
theorem test_illegal_words :
    runCode (.ctrl24 0x600000#24) State.reset = .next { State.reset with fault := 1#4 } ∧
    runCode (.ctrl24 0x110000#24) State.reset = .next { State.reset with fault := 1#4 } ∧
    runCode (.ctrl24 0x000001#24) State.reset = .next { State.reset with fault := 1#4 } ∧
    runCode (.ctrl24 0x300102#24) State.reset = .next { State.reset with fault := 1#4 } := ⟨rfl, rfl, rfl, rfl⟩
/-- X15; X17. -/
theorem test_collision : (nextState? (runCycle { ctl := some 0x000000#24, cap := some 1#8, slot := false }
      (State.resetWith g4))).map (fun t => (t.fault, t.state)) = some (2#4, .idle) := by decide
theorem test_fault_ignores : after (.capture 1#8) (faulted (inLine g4 [0#8] 0 false [])) id =
    some (faulted (inLine g4 [0#8] 0 false [])) := by decide
/-- The byte handed off is taken once, two SCLK edges on, and seen back two PCLK edges on. -/
theorem test_handoff :
    let s := { State.resetWith g4 with txd := 0x41#8, req := true, wire := [0x41#8] }
    (sclkEdge true (sclkEdge true (sclkEdge true (sclkEdge true s)))).taken = [0x41#8] ∧
    crossingReady s = false ∧ crossingReady (pclkEdge (pclkEdge { s with ack := true })) = true := by decide
theorem test_reset_keeps_wire : (nextState? (runEvent (.reset true true)
      { inDrain g4 [2#8, 1#8, 128#8, 255#8] 3 true [] with wire := [2#8, 1#8, 128#8] })).map
        (fun t => (t.state, t.wire, t.cfg)) = some (.idle, [2#8, 1#8, 128#8], g4) := by decide

/-- R151, R162: with PCLK stopped a cycle and a control word do nothing and the sink goes on; a reset is not seen. -/
theorem test_pclk_stopped :
    (nextState? (step { inLine g4 [0x10#8] 0 false [] with
        pclkRuns := false, inputs := [.cycle { ctl := none, cap := some 1#8, slot := true }] })) =
      some { inLine g4 [0x10#8] 0 false [] with pclkRuns := false } ∧
    (nextState? (step { State.resetWith g4 with
        pclkRuns := false, req := true, txd := 7#8, reqSync := [true, true], inputs := [.sclk true] })).map State.taken =
      some [7#8] ∧
    nextState? (step { State.reset with pclkRuns := false, inputs := [.reset true true] }) = none ∧
    (nextState? (step { State.reset with pclkRuns := false, inputs := [.pclk true] })).map State.pclkRuns =
      some true := ⟨rfl, rfl, rfl, rfl⟩

/-- R182, R6: which moves are the controller's. -/
theorem test_controllerIssues :
    ([.op (.ctrl24 0#24), .op (.strobe 1#1), .cycle { ctl := none, cap := none, slot := true }, .reset true true].map
      controllerIssues = [true, true, true, true]) ∧
    ([.op (.cap8 1#8), .op (.strobe 0#1), .cycle { ctl := none, cap := some 1#8, slot := false }, .sclk true,
      .pclk false, .op (.internal 0#2)].map controllerIssues = [false, false, false, false, false, false]) := by decide

/-! ### Witnesses: states and operands that meet the hypotheses of the obligations -/

/-- A line under way in BUFFERED mode, its first byte sent, its second formatted. -/
def midLine : State :=
  { inLine g4 [2#8, 1#8, 0x80#8] 1 true [.ready] with wire := [2#8], txd := 2#8, req := true }
/-- A line being drained, its last byte still to be formatted. -/
def lastOfLine : State := inDrain g4 [2#8, 1#8, 0x80#8, 0xFE#8] 3 false [.ready]
/-- A line being drained, its last byte formatted. -/
def lastFormatted (d : Draw) : State := inDrain g4 [2#8, 1#8, 0x80#8, 0xFF#8] 3 true [d]
/-- A DIRECT-mode line with one byte waiting. -/
def oneWaiting (d : Draw) : State := inLine r2d [0x08#8, 0xFF#8] 1 false [d]
/-- A DIRECT-mode line being drained. -/
def lastDirect (d : Draw) : State := inDrain r2d [8#8, 1#8, 0xF7#8, 0xFF#8] 3 false [d]

theorem inv_midLine : BlockInv midLine := by constructor <;> decide
theorem inv_lastOfLine : BlockInv lastOfLine := by constructor <;> decide
theorem inv_lastFormatted_ready : BlockInv (lastFormatted .ready) := by constructor <;> decide
theorem inv_lastFormatted_notReady : BlockInv (lastFormatted .notReady) := by constructor <;> decide
theorem inv_oneWaiting_ready : BlockInv (oneWaiting .ready) := by constructor <;> decide
theorem inv_oneWaiting_notReady : BlockInv (oneWaiting .notReady) := by constructor <;> decide
theorem inv_lastDirect_ready : BlockInv (lastDirect .ready) := by constructor <;> decide
/-- The four kinds of byte of a frame: marker, length, payload, checksum. -/
theorem inv_inDebug_marker : BlockInv (inDebug 0 0#8 [.ready]) := by constructor <;> decide
theorem inv_inDebug_length : BlockInv (inDebug 1 0#8 [.ready]) := by constructor <;> decide
theorem inv_inDebug_first : BlockInv (inDebug 2 0#8 [.ready]) := by constructor <;> decide
theorem inv_inDebug_last : BlockInv (inDebug 4 0x5C#8 [.notReady]) := by constructor <;> decide
theorem inv_inDebug_checksum : BlockInv (inDebug 5 0x17#8 [.ready]) := by constructor <;> decide
theorem inv_inNewframe : BlockInv (inNewframe g4 4 0x15#8 [.ready]) := by constructor <;> decide
theorem inv_inNewframe_checksum : BlockInv (inNewframe g4 6 0x37#8 [.ready]) := by constructor <;> decide
theorem inv_atReset_g2 : BlockInv (atReset g2 2) := by constructor <;> decide
theorem inv_atReset_r2 : BlockInv (atReset r2 4) := by constructor <;> decide
theorem inv_atReset_r2d : BlockInv (atReset r2d 4) := by constructor <;> decide
theorem inv_faulted : BlockInv (faulted midLine) := by constructor <;> decide
/-- A byte handed off and not yet seen by the sink. -/
def handedOff : State :=
  { midLine with draws := [.crossing], wire := [2#8], txd := 2#8, req := true, inputs := [.sclk true] }
theorem handoffInv_handedOff : HandoffInv handedOff := by constructor <;> decide

/-- PCLK stopped. -/
def stopped (s : State) : State := { s with pclkRuns := false }
/-- With PCLK stopped and no move listed, a legal instance stands still for ever. -/
theorem isRun_stopped {s : State} (hl : legal s.cfg = true) (hi : s.inputs = []) (hp : s.pclkRuns = false) :
    IsRun fun _ => s :=
  fun _ => ⟨s, by simp [step, stepInstance, hl, hi, hp], [], [], by simp⟩
/-- A command whose sink is never ready: each cycle makes an attempt, and the environment lists one more draw. -/
def stalledRun (n : Nat) : State := { inDebug 4 0x5C#8 [.notReady] with drawCount := n }
theorem step_stalledRun (n : Nat) : step (stalledRun n) = .next { stalledRun (n + 1) with draws := [] } :=
  step_next.2 ⟨(by decide : legal g4 = true), .inl ⟨rfl, rfl, runCycle_next.2
    ⟨{ stalledRun (n + 1) with draws := [] }, _, rfl, rfl, rfl⟩⟩⟩
theorem isRun_stalledRun : IsRun stalledRun := fun n => ⟨_, step_stalledRun n, [], [.notReady], rfl⟩
theorem stalledRun_attempts (n : Nat) : attemptsSend (stalledRun n) = true := by
  rw [attemptsSend, step_stalledRun]
  simp [nextState?, stalledRun]
/-- A command has ended, its last byte handed off. -/
def commandSent : State :=
  { inDebug 5 0x17#8 [] with
    state := .idle, cidx := 0#9, wire := [0x17#8], txd := 0x17#8, req := true, drawCount := 1 }
theorem step_commandSent : step commandSent = .next commandSent := rfl
/-- An idle block whose controller is silent while the sink's clock goes on. -/
def sinkGoesOn : State := { State.resetWith g4 with inputs := [.sclk true] }
theorem step_sinkGoesOn : step sinkGoesOn = .next (State.resetWith g4) := rfl
theorem isRun_sinkGoesOn : IsRun fun _ => sinkGoesOn := fun _ => ⟨_, step_sinkGoesOn, [.sclk true], [], rfl⟩
theorem ends_sinkGoesOn : EndsWellAt (fun _ => sinkGoesOn) 0 := ⟨fun _ => rfl, rfl, fun _ _ => rfl⟩
/-- A faulted block that is reset and stays idle. -/
def faultThenReset : Nat → State
  | 0 => { faulted (State.resetWith g4) with inputs := [.reset true true] }
  | _ + 1 => State.resetWith g4
theorem step_reset : step (State.resetWith g4) = .next (State.resetWith g4) := rfl
theorem isRun_faultThenReset : IsRun faultThenReset
  | 0 => ⟨State.resetWith g4, rfl, [], [], rfl⟩
  | _ + 1 => ⟨_, step_reset, [], [], rfl⟩
/-- The last byte of a command, sent at an attempt that sees the crossing's own `ready`; then the block is idle. -/
def fairRun : Nat → State
  | 0 => inDebug 5 0x17#8 [.crossing]
  | _ + 1 => commandSent
theorem step_fairRun : ∀ n, step (fairRun n) = .next (fairRun (n + 1))
  | 0 => rfl
  | _ + 1 => step_commandSent

/-! The encoder. -/

theorem witness_GrayscaleSecondResult : (0x81#8).getLsbD 0 = true := by decide
theorem witness_RgbHighResult : (4 : Nat) ≠ 3 ∧ (2 : Nat) ≠ 3 := by decide
theorem witness_RgbLowResult : (4 : Nat) ≠ 5 ∧ (4 : Nat) ≠ 0 := by decide
theorem witness_EncselSelectsTheAppliedEncoder :
    (legal (inLine g4 [1#8] 0 false []).cfg = true ∧ g4.pixfmt = 0x2#4 ∧
      (inLine g4 [1#8] 0 false []).highByteNext = true) ∧
    (legal midLine.cfg = true ∧ midLine.cfg.pixfmt = 0x2#4 ∧ midLine.highByteNext = false) ∧
    (legal r2 = true ∧ r2.pixfmt = 0x1#4 ∧ (inLine r2 [1#8] 0 false []).highByteNext = true) ∧
    (legal (lastDirect .ready).cfg = true ∧ (lastDirect .ready).cfg.pixfmt = 0x1#4 ∧
      (lastDirect .ready).highByteNext = false) := by decide
theorem witness_PixelBytesAreNeverTheMarker :
    (BlockInv midLine ∧ ∃ t, exec .slot midLine = .next t) ∧
    (BlockInv (lastFormatted .ready) ∧ ∃ t, exec .drainStep (lastFormatted .ready) = .next t) ∧
    (BlockInv (oneWaiting .ready) ∧ ∃ t, exec .directStep (oneWaiting .ready) = .next t) :=
  ⟨⟨inv_midLine, _, rfl⟩, ⟨inv_lastFormatted_ready, _, rfl⟩, ⟨inv_oneWaiting_ready, _, rfl⟩⟩
theorem witness_EncoderMarksAndParity :
    (legal g4 = true ∧ g4.pixfmt = 0x2#4) ∧ (legal r2 = true ∧ r2.pixfmt = 0x1#4) := by decide
theorem witness_EncoderCost : (0 : Nat) < 8 ∧ (7 : Nat) < 8 := by decide

/-! Encodings. -/

theorem witness_DecodeEncodeRoundTrip :
    (Instr.wireDebug 254#8).wellFormed = true ∧ (Instr.textwr 255#8 255#8).wellFormed = true ∧
    decode (.ctrl24 0x20FFFF#24) = .ok (.textwr 255#8 255#8) ∧ decode (.encsel 3#2 0#8) = .ok (.rgbLow 0#8) := by
  decide
theorem witness_IllegalControlWordsFault :
    State.reset.fault = 0#4 ∧ (6 ≤ (6#4).toNat) ∧ (15#4 : BitVec 4) ≠ 0#4 ∧
    ((5#4 : BitVec 4) = 5#4 ∧ (0#8 ≠ 0#8 ∨ 1#8 ≠ (0#8 : Byte))) ∧ ((3#4 : BitVec 4) = 3#4 ∧ 128#8 ≠ (0#8 : Byte)) ∧
    ¬ (6 ≤ (2#4 : BitVec 4).toNat ∨ (0#4 : BitVec 4) ≠ 0#4 ∨
        (((2#4 : BitVec 4) = 0#4 ∨ (2#4 : BitVec 4) = 1#4 ∨ (2#4 : BitVec 4) = 4#4 ∨ (2#4 : BitVec 4) = 5#4) ∧
          ((255#8 : Byte) ≠ 0#8 ∨ (255#8 : Byte) ≠ 0#8)) ∨ ((2#4 : BitVec 4) = 3#4 ∧ (255#8 : Byte) ≠ 0#8)) := by
  decide
theorem witness_NewFramePayloadRoundTrip :
    legal { r2 with width := 1023#10, height := 1023#10 } = true ∧
    (∀ c, c = Config.sourceBuild ∨ c = sourceRgb → c.width = 160#10 ∧ c.height = 120#10 ∧
      (atReset c 7).fault = 0#4 ∧ (atReset c 7).state = .idle ∧ (atReset c 7).draws = List.replicate 7 .ready) ∧
    Config.sourceBuild.pixfmt = 0x2#4 ∧ sourceRgb.pixfmt = 0x1#4 := by
  refine ⟨by decide, ?_, rfl, rfl⟩
  rintro c (rfl | rfl) <;> exact ⟨rfl, rfl, rfl, rfl, rfl⟩
/-- A text buffer with all its 254 bytes written. -/
def fullText : State :=
  { State.resetWith g4 with txt := (List.range 254).map fun i => (i, BitVec.ofNat 8 (i + 1)), txtv := BitVec.allOnes 254 }
theorem witness_WireRowsYieldTheirFrames :
    (1 ≤ (1#8).toNat ∧ (1#8).toNat ≤ 254 ∧ ∀ i < (1#8).toNat, (readText (withText State.reset) i).isSome = true) ∧
    (1 ≤ (254#8).toNat ∧ (254#8).toNat ≤ 254 ∧ ∀ i < (254#8).toNat, (readText fullText i).isSome = true) := by decide

/-! The framer. -/

theorem witness_NewframeStartsACommand :
    (State.reset.fault = 0#4 ∧ State.reset.state = .idle) ∧ (midLine.fault = 0#4 ∧ midLine.state ≠ .idle) ∧
    ((0x180000#24).extractLsb' 20 4 = 1#4 ∧ (0x180000#24).extractLsb' 0 20 ≠ 0#20) ∧
    ((0x100001#24).extractLsb' 20 4 = 1#4 ∧ (0x100001#24).extractLsb' 0 20 ≠ 0#20) ∧
    ((atReset Config.sourceBuild 7).fault = 0#4 ∧ (atReset Config.sourceBuild 7).cfg.pixfmt = 0x2#4 ∧
      (atReset Config.sourceBuild 7).cfg.width = 160#10 ∧ (atReset Config.sourceBuild 7).cfg.height = 120#10 ∧
      (atReset Config.sourceBuild 7).state = .idle ∧
      (atReset Config.sourceBuild 7).draws = List.replicate 7 .ready) := by decide
theorem witness_TextwrWritesTheTextBuffer :
    ((inDebug 0 0#8 []).fault = 0#4 ∧ (inDebug 0 0#8 []).state = .cmd) ∧
    (midLine.fault = 0#4 ∧ midLine.state ≠ .cmd ∧ 253 < (254#8).toNat ∧ (253#8).toNat ≤ 253) ∧
    (1#4 : BitVec 4) ≠ 0#4 ∧ (1 : Nat) ≠ (0#8).toNat ∧ (∃ t, exec (.debug 0#8) State.reset = .next t) :=
  ⟨by decide, by decide, by decide, by decide, _, rfl⟩
theorem witness_DebugStartsACommand :
    (midLine.fault = 0#4 ∧ midLine.state ≠ .idle) ∧ (State.reset.fault = 0#4 ∧ State.reset.state = .idle) ∧
    ((0x300100#24).extractLsb' 20 4 = 3#4 ∧ (0x300100#24).extractLsb' 8 12 ≠ 0#12) ∧
    ((withText State.reset).fault = 0#4 ∧ (withText State.reset).state = .idle ∧
      (3#8 ≠ (0#8 : Byte) ∧ 3#8 ≠ (255#8 : Byte) ∧ 2 < (3#8).toNat ∧ textMarked (withText State.reset) 2 = false) ∧
      (2#8 ≠ (0#8 : Byte) ∧ 2#8 ≠ (255#8 : Byte) ∧ ∀ i < (2#8).toNat, textMarked (withText State.reset) i = true)) ∧
    (fullText.fault = 0#4 ∧ fullText.state = .idle ∧ 254#8 ≠ (0#8 : Byte) ∧ 254#8 ≠ (255#8 : Byte) ∧
      ∀ i < (254#8).toNat, textMarked fullText i = true) ∧
    ((atReset g4 6).fault = 0#4 ∧ (atReset g4 6).state = .idle ∧ (atReset g4 6).draws = List.replicate 6 .ready) := by
  decide
/-- The four kinds of byte, the not-ready sink, the step not enabled, and the RGB565 example. -/
theorem witness_CmdStepEmitsTheNextByte :
    (BlockInv (inDebug 0 0#8 [.ready]) ∧ (inDebug 0 0#8 [.ready]).cidx = 0#9) ∧
    (BlockInv (inDebug 1 0#8 [.ready]) ∧ (inDebug 1 0#8 [.ready]).cidx = 1#9) ∧
    (BlockInv (inDebug 2 0#8 [.ready]) ∧ 2 ≤ (inDebug 2 0#8 [.ready]).cidx.toNat ∧
      ready (inDebug 2 0#8 [.ready]) = true) ∧
    (BlockInv (inDebug 4 0x5C#8 [.notReady]) ∧ (inDebug 4 0x5C#8 [.notReady]).cidx.toNat ≤
      (inDebug 4 0x5C#8 [.notReady]).clen.toNat + 1 ∧ ready (inDebug 4 0x5C#8 [.notReady]) = false) ∧
    (BlockInv (inDebug 5 0x17#8 [.ready]) ∧ (inDebug 5 0x17#8 [.ready]).cidx.toNat =
      (inDebug 5 0x17#8 [.ready]).clen.toNat + 2 ∧ (inDebug 5 0x17#8 [.ready]).fault = 0#4 ∧
      (inDebug 5 0x17#8 [.ready]).state = .cmd) ∧
    ¬ (State.reset.fault = 0#4 ∧ State.reset.state = .cmd) ∧
    (sourceRgb.pixfmt = 0x1#4 ∧ sourceRgb.width = 160#10 ∧ sourceRgb.height = 120#10 ∧
      (atReset sourceRgb 7).fault = 0#4 ∧ (atReset sourceRgb 7).state = .idle ∧
      (atReset sourceRgb 7).draws = List.replicate 7 .ready) ∧
    (∃ t, exec .newframe { State.reset with chk := 0x37#8 } = .next t ∧ t.chk ≠ 0x37#8) :=
  ⟨⟨inv_inDebug_marker, by decide⟩, ⟨inv_inDebug_length, by decide⟩, ⟨inv_inDebug_first, by decide⟩,
    ⟨inv_inDebug_last, by decide⟩, ⟨inv_inDebug_checksum, by decide⟩, by decide, by decide, _, rfl, by decide⟩
theorem witness_ChecksumClosesTheFrame :
    (BlockInv (inDebug 5 0x17#8 [.ready]) ∧ (inDebug 5 0x17#8 [.ready]).fault = 0#4 ∧
      (inDebug 5 0x17#8 [.ready]).state = .cmd ∧
      (inDebug 5 0x17#8 [.ready]).cidx.toNat = (inDebug 5 0x17#8 [.ready]).clen.toNat + 2 ∧
      ready (inDebug 5 0x17#8 [.ready]) = true ∧ ∃ t, exec .cmdStep (inDebug 5 0x17#8 [.ready]) = .next t) ∧
    (BlockInv (inNewframe g4 6 0x37#8 [.ready]) ∧ ∃ t, exec .cmdStep (inNewframe g4 6 0x37#8 [.ready]) = .next t) :=
  ⟨⟨inv_inDebug_checksum, rfl, rfl, rfl, rfl, _, rfl⟩, inv_inNewframe_checksum, _, rfl⟩
theorem witness_CommandFrameIsContiguous :
    (inDebug 2 0#8 []).state = .cmd ∧ Instr.textwr 0#8 1#8 ≠ .cmdStep ∧
      ∃ t, exec (.textwr 0#8 1#8) (inDebug 2 0#8 []) = .next t := ⟨rfl, nofun, _, rfl⟩

/-! The scheduler. -/

theorem witness_NopHasNoEffect :
    State.reset.fault = 0#4 ∧ ((0x080000#24).extractLsb' 20 4 = 0#4 ∧ (0x080000#24).extractLsb' 0 20 ≠ 0#20) ∧
    ((0x000001#24).extractLsb' 20 4 = 0#4 ∧ (0x000001#24).extractLsb' 0 20 ≠ 0#20) := by decide
theorem witness_LinestartOpensALine :
    (State.reset.fault = 0#4 ∧ State.reset.state = .idle) ∧ (midLine.fault = 0#4 ∧ midLine.state ≠ .idle) ∧
    ((0x400001#24).extractLsb' 20 4 = 4#4 ∧ (0x400001#24).extractLsb' 0 20 ≠ 0#20) := by decide
theorem witness_CapturePushesAByte :
    (State.reset.fault = 0#4 ∧ State.reset.state ≠ .line) ∧
    ((inLine g4 [1#8, 2#8, 3#8, 4#8] 0 false []).state = .line ∧
      (inLine g4 [1#8, 2#8, 3#8, 4#8] 0 false []).wr = lineBytes g4) ∧
    ((oneWaiting .ready).fault = 0#4 ∧ (oneWaiting .ready).state = .line ∧
      (oneWaiting .ready).wr ≠ lineBytes (oneWaiting .ready).cfg ∧ (oneWaiting .ready).cfg.mode = .direct ∧
      (oneWaiting .ready).cursor < (oneWaiting .ready).wr) ∧
    (midLine.fault = 0#4 ∧ midLine.state = .line ∧ midLine.wr.toNat + 1 = (lineBytes midLine.cfg).toNat ∧
      midLine.cfg.mode = .buffered) := by decide
theorem witness_LineendClosesTheLine :
    (State.reset.fault = 0#4 ∧ State.reset.state ≠ .line) ∧
    (midLine.fault = 0#4 ∧ midLine.state = .line ∧ midLine.wr ≠ lineBytes midLine.cfg) ∧
    ((inLine g4 [1#8, 2#8, 3#8, 4#8] 4 false []).wr = lineBytes g4 ∧
      (inLine g4 [1#8, 2#8, 3#8, 4#8] 4 false []).cursor = (inLine g4 [1#8, 2#8, 3#8, 4#8] 4 false []).wr) ∧
    ((inLine g4 [1#8, 2#8, 3#8, 4#8] 3 false []).wr = lineBytes g4 ∧
      (inLine g4 [1#8, 2#8, 3#8, 4#8] 3 false []).cursor ≠ (inLine g4 [1#8, 2#8, 3#8, 4#8] 3 false []).wr) ∧
    ((0x500001#24).extractLsb' 20 4 = 5#4 ∧ (0x500001#24).extractLsb' 0 20 ≠ 0#20) := by decide
theorem witness_SlotTakesOneSubstep :
    (State.reset.fault = 0#4 ∧ State.reset.state ≠ .line) ∧ (oneWaiting .ready).cfg.mode = .direct ∧
    (inLine g4 [] 0 false []).cursor = (inLine g4 [] 0 false []).wr ∧
    (∀ f d, (inLine g4 [2#8, 1#8, 3#8] 2 f [d]).fault = 0#4 ∧ (inLine g4 [2#8, 1#8, 3#8] 2 f [d]).state = .line ∧
      (inLine g4 [2#8, 1#8, 3#8] 2 f [d]).cfg.mode = .buffered ∧
      (inLine g4 [2#8, 1#8, 3#8] 2 f [d]).cursor < (inLine g4 [2#8, 1#8, 3#8] 2 f [d]).wr ∧
      (inLine g4 [2#8, 1#8, 3#8] 2 f [d]).wr.toNat ≤ (lineBytes g4).toNat ∧
      (inLine g4 [2#8, 1#8, 3#8] 2 f [d]).lb.read (inLine g4 [2#8, 1#8, 3#8] 2 f [d]).cursor.toNat = some 3#8 ∧
      (inLine g4 [2#8, 1#8, 3#8] 2 f [d]).formatted = f) ∧
    ready (inLine g4 [2#8, 1#8, 3#8] 2 true [.ready]) = true ∧
    ready (inLine g4 [2#8, 1#8, 3#8] 2 true [.notReady]) = false := by
  refine ⟨by decide, by decide, by decide, ?_, by decide, by decide⟩
  intro f d
  exact ⟨rfl, rfl, rfl, (by decide : 2#11 < 3#11), (by decide : (3#11).toNat ≤ (lineBytes g4).toNat), rfl, rfl⟩
theorem witness_DrainStepTakesOneSubstep :
    ¬ (State.reset.fault = 0#4 ∧ State.reset.state = .drain ∧ State.reset.cfg.mode = .buffered) ∧
    (lastOfLine.fault = 0#4 ∧ lastOfLine.state = .drain ∧ lastOfLine.cfg.mode = .buffered ∧
      lastOfLine.cursor < lastOfLine.wr ∧ lastOfLine.wr.toNat ≤ (lineBytes lastOfLine.cfg).toNat ∧
      lastOfLine.lb.read lastOfLine.cursor.toNat = some 0xFE#8 ∧ lastOfLine.formatted = false) ∧
    ((lastFormatted .ready).fault = 0#4 ∧ (lastFormatted .ready).state = .drain ∧
      (lastFormatted .ready).lb.read (lastFormatted .ready).cursor.toNat = some 0xFF#8 ∧
      (lastFormatted .ready).formatted = true ∧ ready (lastFormatted .ready) = true ∧
      (lastFormatted .ready).cursor.toNat + 1 = (lastFormatted .ready).wr.toNat) ∧
    ((lastFormatted .notReady).formatted = true ∧ ready (lastFormatted .notReady) = false) := by decide
theorem witness_DirectStepFormatsAndSends :
    ¬ (midLine.fault = 0#4 ∧ midLine.cfg.mode = .direct ∧ (midLine.state = .line ∨ midLine.state = .drain) ∧
      midLine.cursor < midLine.wr) ∧
    ((oneWaiting .notReady).fault = 0#4 ∧ (oneWaiting .notReady).cfg.mode = .direct ∧
      (oneWaiting .notReady).state = .line ∧ (oneWaiting .notReady).cursor < (oneWaiting .notReady).wr ∧
      (oneWaiting .notReady).wr.toNat ≤ (lineBytes r2d).toNat ∧
      (oneWaiting .notReady).lb.read (oneWaiting .notReady).cursor.toNat = some 0xFF#8 ∧
      ready (oneWaiting .notReady) = false) ∧
    ((lastDirect .ready).fault = 0#4 ∧ (lastDirect .ready).cfg.mode = .direct ∧ (lastDirect .ready).state = .drain ∧
      (lastDirect .ready).cursor < (lastDirect .ready).wr ∧ (lastDirect .ready).wr.toNat ≤ (lineBytes r2d).toNat ∧
      (lastDirect .ready).lb.read (lastDirect .ready).cursor.toNat = some 0xFF#8 ∧
      ready (lastDirect .ready) = true) := by decide
theorem witness_StateTable :
    (State.reset.fault = 0#4 ∧ State.reset.state = .idle ∧ ∃ t, exec .newframe State.reset = .next t) ∧
    (midLine.fault = 0#4 ∧ midLine.state = .line ∧ (∃ t, exec (.capture 1#8) midLine = .next t) ∧
      ∃ t, exec .slot midLine = .next t) ∧
    ((inDebug 2 0#8 []).fault = 0#4 ∧ (inDebug 2 0#8 []).state = .cmd) :=
  ⟨⟨rfl, rfl, _, rfl⟩, ⟨rfl, rfl, ⟨_, rfl⟩, _, rfl⟩, rfl, rfl⟩
/-- Each of the six transitions is made. -/
theorem witness_LegalTransitions :
    (∃ t, exec .newframe State.reset = .next t ∧ t.state ≠ State.reset.state) ∧
    (∃ t, exec .cmdStep (inDebug 5 0x17#8 [.ready]) = .next t ∧ t.state ≠ (inDebug 5 0x17#8 [.ready]).state) ∧
    (∃ t, exec .linestart State.reset = .next t ∧ t.state ≠ State.reset.state) ∧
    (∃ t, exec .lineend (inLine g2 [1#8, 2#8] 1 false []) = .next t ∧ t.state = .drain) ∧
    (∃ t, exec .lineend (inLine g2 [1#8, 2#8] 2 false []) = .next t ∧ t.state = .idle) ∧
    (∃ t, exec .drainStep (lastFormatted .ready) = .next t ∧ t.state ≠ (lastFormatted .ready).state) ∧
    ∃ t, exec .directStep (lastDirect .ready) = .next t ∧ t.state ≠ (lastDirect .ready).state :=
  ⟨⟨_, rfl, nofun⟩, ⟨_, rfl, nofun⟩, ⟨_, rfl, nofun⟩, ⟨_, rfl, rfl⟩, ⟨_, rfl, rfl⟩, ⟨_, rfl, nofun⟩, ⟨_, rfl, nofun⟩⟩
theorem witness_AtMostOneInternalStep :
    enabledStep (inDebug 5 0x17#8 [.ready]) = some .cmdStep ∧ enabledStep lastOfLine = some .drainStep ∧
    enabledStep (oneWaiting .ready) = some .directStep ∧
    (∃ t, exec .cmdStep (inDebug 5 0x17#8 [.ready]) = .next t ∧ t.state = .idle) :=
  ⟨rfl, rfl, rfl, _, rfl, rfl⟩
theorem witness_StalledSinkHoldsTheBlock :
    (BlockInv (inDebug 4 0x5C#8 [.notReady]) ∧ enabledStep (inDebug 4 0x5C#8 [.notReady]) = some .cmdStep ∧
      ready (inDebug 4 0x5C#8 [.notReady]) = false) ∧
    (BlockInv (lastFormatted .notReady) ∧ enabledStep (lastFormatted .notReady) = some .drainStep ∧
      ready (lastFormatted .notReady) = false ∧ (lastFormatted .notReady).formatted = true) ∧
    (BlockInv (oneWaiting .notReady) ∧ enabledStep (oneWaiting .notReady) = some .directStep ∧
      ready (oneWaiting .notReady) = false) ∧
    (IsRun stalledRun ∧ BlockInv (stalledRun 0) ∧ waitsForSink (stalledRun 0) = true ∧ NoResetFrom stalledRun 0 ∧
      ∀ m ≥ 0, attemptsSend (stalledRun m) = true → ready (stalledRun m) = false) :=
  ⟨⟨inv_inDebug_last, rfl, rfl⟩, ⟨inv_lastFormatted_notReady, rfl, rfl, rfl⟩, ⟨inv_oneWaiting_notReady, rfl, rfl⟩,
    isRun_stalledRun, { inv_inDebug_last with }, rfl, by simp [NoResetFrom, stalledRun, inDebug, withText, State.resetWith], fun _ _ _ => rfl⟩

/-- A whole BUFFERED line of two bytes, one slot in it. -/
def lineRun : List Instr :=
  [.capture 0#8, .slot, .capture 1#8, .lineend, .drainStep, .drainStep, .drainStep]
/-- The same controller and sensor moves on four bytes, BUFFERED and DIRECT (P3, P4). -/
def bufferedRun : List Instr := expandLine [0#8, 0#8, 0xFF#8, 0xFF#8] ++ List.replicate 8 Instr.drainStep
/-- P4. -/
def directRun : List Instr :=
  [.linestart, .capture 0#8, .directStep, .capture 0#8, .directStep, .capture 0xFF#8, .directStep, .capture 0xFF#8,
   .lineend, .directStep]

/-- P3 and P4 end in `IDLE` with the same wire output. -/
theorem test_p3_p4 :
    (nextState? (runOps bufferedRun (atReset r2 4))).map (fun t => (t.wire, t.state, t.fault)) =
      some ([0x08#8, 0x01#8, 0xF7#8, 0xFF#8], .idle, 0#4) ∧
    (nextState? (runOps directRun (atReset r2d 4))).map (fun t => (t.wire, t.state, t.fault)) =
      some ([0x08#8, 0x01#8, 0xF7#8, 0xFF#8], .idle, 0#4) := by decide

theorem witness_SubstepsPerByte :
    (BlockInv (atReset r2 4) ∧ (atReset r2 4).state = .idle ∧ r2.mode = .buffered ∧
      ∃ t, runOps bufferedRun (atReset r2 4) = .next t ∧ t.state = .idle ∧ t.fault = 0#4) ∧
    (BlockInv (atReset r2d 4) ∧ (atReset r2d 4).state = .idle ∧ r2d.mode = .direct ∧
      ∃ t, runOps directRun (atReset r2d 4) = .next t ∧ t.state = .idle ∧ t.fault = 0#4) :=
  ⟨⟨inv_atReset_r2, rfl, rfl, _, rfl, rfl, rfl⟩, inv_atReset_r2d, rfl, rfl, _, rfl, rfl, rfl⟩

/-! Faults. -/

theorem witness_FaultEntryIsPrecise :
    (∃ t, exec .lineend midLine = .next t ∧ t.fault ≠ midLine.fault) ∧
    (∃ t, runCode (.ctrl24 0x610000#24) midLine = .next t ∧ t.fault ≠ midLine.fault) ∧
    ∃ t, collision midLine = .next t ∧ t.fault ≠ midLine.fault :=
  ⟨⟨_, rfl, by decide⟩, ⟨_, rfl, by decide⟩, _, rfl, by decide⟩
theorem witness_FaultedBlockIgnoresEverything :
    (faulted midLine).fault ≠ 0#4 ∧ isOperation .slot = true ∧
    reqS { faulted midLine with reqSync := [true, true] } ≠ (faulted midLine).ack := by decide
theorem witness_FaultIsStickyUntilReset :
    (∃ t, step { faulted midLine with inputs := [.op (.strobe 1#1)] } = .next t ∧ t.fault = 2#4) ∧
    (∃ t, step { midLine with inputs := [.op (.ctrl24 0x610000#24)] } = .next t ∧ t.fault = 1#4) ∧
    ∃ t, step { faulted midLine with inputs := [.reset true true] } = .next t ∧ t.fault = 0#4 :=
  ⟨⟨_, rfl, rfl⟩, ⟨_, rfl, rfl⟩, _, rfl, rfl⟩
theorem witness_FaultPriority :
    (∃ u, firstOfCycle true midLine = .next u ∧ u.fault = 0#4) ∧
    decode (.ctrl24 0x610000#24) = .error .reservedOpcode ∧
    ((inDebug 2 0#8 []).fault = 0#4 ∧ (inDebug 2 0#8 []).state = .cmd) ∧ (midLine.fault = 0#4 ∧ midLine.state ≠ .idle) ∧
    (lastOfLine.fault = 0#4 ∧ lastOfLine.state ≠ .line) ∧
    (State.reset.fault = 0#4 ∧ State.reset.state = .idle ∧ textMarked State.reset 0 = false) ∧
    ((inLine r2d [8#8, 1#8, 2#8, 3#8] 3 false []).fault = 0#4 ∧
      (inLine r2d [8#8, 1#8, 2#8, 3#8] 3 false []).state = .line ∧
      (inLine r2d [8#8, 1#8, 2#8, 3#8] 3 false []).wr = lineBytes r2d ∧ r2d.mode = .direct ∧
      (inLine r2d [8#8, 1#8, 2#8, 3#8] 3 false []).cursor < (inLine r2d [8#8, 1#8, 2#8, 3#8] 3 false []).wr) :=
  ⟨⟨_, rfl, rfl⟩, by decide, by decide, by decide, by decide, by decide, by decide⟩
theorem witness_OrderInsideACycle :
    (enabledStep (oneWaiting .ready) = some .directStep ∧ enabledStep midLine = none ∧ PortSample.quiet.slot = false) ∧
    (BlockInv (oneWaiting .ready) ∧ (oneWaiting .ready).fault = 0#4 ∧ (oneWaiting .ready).state = .line ∧
      (oneWaiting .ready).cfg.mode = .direct ∧ (oneWaiting .ready).cursor < (oneWaiting .ready).wr ∧
      (oneWaiting .ready).wr ≠ lineBytes (oneWaiting .ready).cfg ∧ ready (oneWaiting .ready) = true) ∧
    (BlockInv (inDebug 5 0x17#8 [.ready]) ∧ (inDebug 5 0x17#8 [.ready]).fault = 0#4 ∧
      (inDebug 5 0x17#8 [.ready]).state = .cmd ∧ ready (inDebug 5 0x17#8 [.ready]) = true) :=
  ⟨by decide, ⟨inv_oneWaiting_ready, by decide⟩, inv_inDebug_checksum, by decide⟩

/-! Reset, the instance, the invariants. -/

theorem witness_ResetEstablishes : ∃ t, runEvent (.reset true true) (faulted midLine) = .next t := ⟨_, rfl⟩
theorem witness_ResetOfBothDomains : midLine.pclkRuns = true ∧ (stopped midLine).pclkRuns = false := ⟨rfl, rfl⟩
theorem witness_StoppedPclkFreezesTheBlock :
    (legal (stopped midLine).cfg = true ∧ (stopped midLine).pclkRuns = false ∧ (stopped midLine).inputs = [] ∧
      needsPclk (.cycle PortSample.quiet) = true ∧ needsPclk (.op (.cap8 9#8)) = true) ∧
    (∃ t, step { stopped midLine with inputs := [.sclk true] } = .next t ∧ t.pclkRuns = false) ∧
    (∃ t, step { stopped midLine with inputs := [.pclk true] } = .next t ∧ t.pclkRuns = true) ∧
    IsRun (fun _ => stopped midLine) ∧ ∀ m ≥ 0, ((fun _ => stopped midLine) m).pclkRuns = false :=
  ⟨by decide, ⟨_, rfl, rfl⟩, ⟨_, rfl, rfl⟩, isRun_stopped rfl rfl rfl, fun _ _ => rfl⟩
theorem witness_IllegalInstanceIsRefused :
    legal (State.resetWith { g4 with width := 5#10 }).cfg = false ∧ legal g4 = true ∧
    legal { r2 with width := 1023#10 } = true := by decide
theorem witness_BlockInvKeptByEveryStep :
    (BlockInv midLine ∧ ∃ t, step midLine = .next t) ∧
    (BlockInv { lastOfLine with inputs := [.cycle PortSample.quiet] } ∧
      ∃ t, step { lastOfLine with inputs := [.cycle PortSample.quiet] } = .next t) :=
  ⟨⟨inv_midLine, _, rfl⟩, { inv_lastOfLine with }, _, rfl⟩
theorem witness_OperationsNeverStop : BlockInv midLine ∧ isOperation .slot = true := ⟨inv_midLine, rfl⟩
theorem witness_EmittedBytesAreHandedOff : ∃ t, exec .slot midLine = .next t := ⟨_, rfl⟩
theorem witness_CrossingHandshake :
    (handedOff.draws = .crossing :: [] ∧ handedOff.ackSync = [false] ++ [false]) ∧
    ({ handedOff with reqSync := [true, true] } : State).reqSync = [true] ++ [true] ∧ true ≠ handedOff.ack ∧
    handedOff.reqSync = [false] ++ [false] ∧ false = handedOff.ack := by decide
theorem witness_HandoffInvKeptByEveryStep :
    HandoffInv handedOff ∧ handedOff.draws.head? = some .crossing ∧
    handedOff.inputs.head? ≠ some (.reset true true) ∧ ∃ t, step handedOff = .next t :=
  ⟨handoffInv_handedOff, by decide, by decide, _, rfl⟩

/-! The wire output and progress. -/

theorem witness_WireIsPaidWhatItIsOwed :
    (BlockInv midLine ∧ ∃ t, exec .slot midLine = .next t ∧ t.fault = 0#4) ∧
    (BlockInv (inDebug 2 0#8 [.ready]) ∧ ∃ t, exec .cmdStep (inDebug 2 0#8 [.ready]) = .next t ∧ t.fault = 0#4) :=
  ⟨⟨inv_midLine, _, rfl, rfl⟩, inv_inDebug_first, _, rfl, rfl⟩
theorem witness_RunOutputIsWhatTheInputsCallFor :
    BlockInv (atReset r2 4) ∧ (atReset r2 4).state = .idle ∧
      ∃ t, runOps bufferedRun (atReset r2 4) = .next t ∧ t.state = .idle ∧ t.fault = 0#4 :=
  ⟨inv_atReset_r2, rfl, _, rfl, rfl, rfl⟩
theorem witness_LineOutput :
    BlockInv (atReset g2 2) ∧ (atReset g2 2).state = .idle ∧ (∀ i ∈ lineRun, insideLine i = true) ∧
      ∃ t, runOps (.linestart :: lineRun) (atReset g2 2) = .next t ∧ t.state = .idle ∧ t.fault = 0#4 :=
  ⟨inv_atReset_g2, rfl, by decide, _, rfl, rfl, rfl⟩
theorem witness_ModesAreEquivalent :
    BlockInv (atReset r2 4) ∧ BlockInv (atReset r2d 4) ∧ (atReset r2 4).cfg.mode = .buffered ∧
    (atReset r2d 4).cfg = { (atReset r2 4).cfg with mode := .direct } ∧ (atReset r2d 4).txt = (atReset r2 4).txt ∧
    (atReset r2 4).state = .idle ∧ (atReset r2d 4).state = .idle ∧
    bufferedRun.filter isInput = directRun.filter isInput ∧
    (∃ t, runOps bufferedRun (atReset r2 4) = .next t ∧ t.state = .idle ∧ t.fault = 0#4) ∧
    ∃ t, runOps directRun (atReset r2d 4) = .next t ∧ t.state = .idle ∧ t.fault = 0#4 :=
  ⟨inv_atReset_r2, inv_atReset_r2d, rfl, rfl, rfl, rfl, rfl, by decide, ⟨_, rfl, rfl, rfl⟩, _, rfl, rfl, rfl⟩
theorem witness_ListedReadyDrawsEndTheWait :
    (BlockInv lastOfLine ∧ lastOfLine.fault = 0#4 ∧ lastOfLine.state = .drain ∧ lastOfLine.cfg.mode = .buffered ∧
      fairFor (lastOfLine.wr.toNat - lastOfLine.cursor.toNat) lastOfLine) ∧
    (BlockInv (lastDirect .ready) ∧ (lastDirect .ready).fault = 0#4 ∧ (lastDirect .ready).state = .drain ∧
      (lastDirect .ready).cfg.mode = .direct ∧
      fairFor ((lastDirect .ready).wr.toNat - (lastDirect .ready).cursor.toNat) (lastDirect .ready)) ∧
    (BlockInv (inDebug 5 0x17#8 [.ready]) ∧ (inDebug 5 0x17#8 [.ready]).fault = 0#4 ∧
      (inDebug 5 0x17#8 [.ready]).state = .cmd ∧
      fairFor ((inDebug 5 0x17#8 [.ready]).clen.toNat + 3 - (inDebug 5 0x17#8 [.ready]).cidx.toNat)
        (inDebug 5 0x17#8 [.ready])) := by
  unfold fairFor
  exact ⟨⟨inv_lastOfLine, by decide⟩, ⟨inv_lastDirect_ready, by decide⟩, inv_inDebug_checksum, by decide⟩
theorem witness_FairRunsEndEveryWait :
    IsRun fairRun ∧ FairRun fairRun ∧ (∀ m, ∃ k ≥ m, isWholeCycle (fairRun k) = true) ∧ BlockInv (fairRun 0) ∧
    waitsForSink (fairRun 0) = true ∧ NoResetFrom fairRun 0 := by
  refine ⟨?_, ?_, ?_, { inv_inDebug_checksum with }, rfl, ?_⟩
  · exact fun n => ⟨_, step_fairRun n, [], [], by simp⟩
  · intro h
    obtain ⟨k, hk, ha⟩ := h 1
    obtain ⟨j, rfl⟩ := Nat.exists_eq_add_of_le' hk
    rw [attemptsSend, step_fairRun] at ha
    simp [nextState?, fairRun] at ha
  · exact fun m => ⟨m + 1, Nat.le_succ m, rfl⟩
  · rintro (_ | m) - <;> simp [fairRun, commandSent, inDebug, withText, State.resetWith]
theorem witness_HangsAreNoEnds :
    (IsRun (fun _ => sinkGoesOn) ∧ EndsWellAt (fun _ => sinkGoesOn) 0 ∧ 0 ≤ 1 ∧ EndsWellWith (fun _ => sinkGoesOn) []) ∧
    (IsRun faultThenReset ∧ (faultThenReset 0).fault ≠ 0#4 ∧ endedWell (faultThenReset 1) = true) ∧
    (IsRun stalledRun ∧ Hangs stalledRun) ∧ (IsRun (fun _ => stopped midLine) ∧ Hangs fun _ => stopped midLine) ∧
    ∃ t, step (inDebug 5 0x17#8 [.ready]) = .next t ∧ attemptsSend (inDebug 5 0x17#8 [.ready]) = true := by
  refine ⟨⟨isRun_sinkGoesOn, ends_sinkGoesOn, Nat.zero_le 1, 0, ends_sinkGoesOn, rfl⟩,
    ⟨isRun_faultThenReset, by decide, rfl⟩, ⟨isRun_stalledRun, .inl fun h => ?_⟩,
    ⟨isRun_stopped rfl rfl rfl, .inr ⟨0, fun m _ => ⟨rfl, fun h => by cases h.2.1⟩⟩⟩, _, rfl, rfl⟩
  obtain ⟨k, -, -, hr⟩ := h (fun m => ⟨m, Nat.le_refl m, stalledRun_attempts m⟩) 0
  cases hr
theorem witness_StepRunsTheDecodedOperation :
    (legal midLine.cfg = true ∧ midLine.pclkRuns = true ∧ decode (.strobe 1#1) = .ok .slot ∧
      Instr.slot.wellFormed = true ∧ decode (.ctrl24 0x600000#24) = .error .reservedOpcode ∧ midLine.fault = 0#4 ∧
      midLine.inputs = [] ∧
      ({ midLine with inputs := [.op (.strobe 1#1)] } : State).inputs = .op (encode .slot) :: []) ∧
    handedOff.inputs = .sclk true :: [] ∧
    ((stopped midLine).pclkRuns = false ∧ (Instr.wireDebug 2#8).wellFormed = true ∧
      isOperation (.wireDebug 2#8) = false) := by decide

/-! Frames: each names an operation that answers a next state. -/

theorem witness_ControlOperationsFrame :
    (∃ t, exec .nop midLine = .next t) ∧ (∃ t, exec .newframe State.reset = .next t) ∧
    (∃ t, exec (.debug 2#8) (withText State.reset) = .next t) ∧ (∃ t, exec .linestart State.reset = .next t) ∧
    ∃ t, exec .lineend midLine = .next t := ⟨⟨_, rfl⟩, ⟨_, rfl⟩, ⟨_, rfl⟩, ⟨_, rfl⟩, _, rfl⟩
theorem witness_MemoryWritersFrame :
    (∃ t, exec (.capture 9#8) midLine = .next t ∧ t.fault = 0#4) ∧
    (∃ t, exec (.capture 9#8) State.reset = .next t ∧ t.fault ≠ 0#4) ∧
    (∃ t, exec (.textwr 253#8 9#8) midLine = .next t ∧ t.fault = 0#4) ∧
    ∃ t, exec (.textwr 254#8 9#8) midLine = .next t ∧ t.fault ≠ 0#4 :=
  ⟨⟨_, rfl, rfl⟩, ⟨_, rfl, by decide⟩, ⟨_, rfl, rfl⟩, _, rfl, by decide⟩
theorem witness_SchedulerStepsFrame :
    (∃ t, exec .slot midLine = .next t ∧ midLine.formatted = true) ∧ (∃ t, exec .drainStep lastOfLine = .next t) ∧
    ∃ t, exec .directStep (oneWaiting .ready) = .next t := ⟨⟨_, rfl, rfl⟩, ⟨_, rfl⟩, _, rfl⟩
theorem witness_FramerAndCombinationalFrame :
    (∃ t, exec .cmdStep (inNewframe g4 4 0x15#8 [.ready]) = .next t) ∧
    (isOperation (.rgbLow 1#8) = false ∧ ∃ t, exec (.rgbLow 1#8) midLine = .next t) ∧
    (isOperation (.wireDebug 2#8) = false ∧ ∃ t, exec (.wireDebug 2#8) (withText State.reset) = .next t) :=
  ⟨⟨_, rfl⟩, ⟨rfl, _, rfl⟩, rfl, _, rfl⟩

end Sys2Proof.Tests
end

/-! PROOFS. The instance: which configurations are legal, and the length of their lines (spec/00_scope.md R9 to R11). -/
namespace Sys2Proof.Machine

/-! ### What the configuration derives -/

/-- R9, R10 and R41 as propositions: the pixel formats by their codes, the dimensions as numbers. -/
theorem legal_iff (c : Cfg) : legal c = true ↔
    (c.pixfmt = 0x1#4 ∨ c.pixfmt = 0x2#4) ∧ 1 ≤ c.width.toNat ∧ 1 ≤ c.height.toNat ∧
    (c.pixfmt = 0x2#4 → c.width.toNat % 2 = 0) ∧ 2 ≤ c.syncStages := by
  have one_le (x : BitVec 10) : 1 ≤ x.toNat ↔ x ≠ 0#10 := by bv_omega
  simp only [legal, Config.rgb565, Config.grayscale, one_le, Bool.and_eq_true, Bool.or_eq_true, beq_iff_eq, bne_iff_ne,
    decide_eq_true_eq, imp_iff_not_or, and_assoc]

/-- R11: `2*WIDTH` fits the eleven bits of `LINE_BYTES`, `WIDTH` having ten. -/
theorem lineBytes_toNat (c : Cfg) :
    (lineBytes c).toNat = if c.pixfmt = 0x2#4 then c.width.toNat else 2 * c.width.toNat := by
  have hw := c.width.isLt
  by_cases hg : c.pixfmt = 0x2#4
  · rw [lineBytes, Config.grayscale, if_pos hg, if_pos hg]
    bv_omega
  · rw [lineBytes, Config.grayscale, if_neg hg, if_neg hg]
    bv_omega

/-- A line has at most twice the 1023 pixels that `WIDTH` can count. -/
theorem lineBytes_le (c : Cfg) : (lineBytes c).toNat ≤ 2046 := by
  have hw := c.width.isLt
  rw [lineBytes_toNat]
  split <;> omega

/-- The bytes of a legal instance's line pair up: R10 makes `WIDTH` even in grayscale, R11 doubles it in RGB565. -/
theorem lineBytes_even {c : Cfg} (hc : legal c = true) : (lineBytes c).toNat % 2 = 0 := by
  obtain ⟨-, -, -, heven, -⟩ := (legal_iff c).1 hc
  rw [lineBytes_toNat]
  split
  case isTrue hg => exact heven hg
  case isFalse => exact Nat.mul_mod_right 2 c.width.toNat

/-- Log entry 7: an illegal instance has no step, whatever the environment lists next. -/
theorem step_of_illegal {s : State} (hs : legal s.cfg = false) : step s = .refused .illegalInstance := by
  simp [step, stepInstance, hs]

/-- Settles O41: the characterisation of `legal`, the refusal that stands first in every step, and R11's number with its
bound and its parity. -/
theorem illegalInstanceIsRefused : Obligations.IllegalInstanceIsRefused :=
  ⟨legal_iff, fun _ => step_of_illegal, fun c hc => ⟨lineBytes_toNat c, lineBytes_le c, lineBytes_even hc⟩⟩

end Sys2Proof.Machine

/-! PROOFS. The state registers: what moves `state` (spec/10_state.md R22), what writes `fault` (R24), and the two
synchronisers of the hand-off (R40 to R42, spec/60_exceptions.md R153, R155). -/
namespace Sys2Proof.Machine

section
variable {s t : State}

/-! ### The sub-steps of a line leave `state` and `fault` -/

theorem formatStep_state (h : formatStep s = .next t) : t.state = s.state := by
  obtain ⟨v, -, -, -, rfl⟩ := formatStep_next.1 h
  rfl

theorem formatStep_fault (h : formatStep s = .next t) : t.fault = s.fault := by
  obtain ⟨v, -, -, -, rfl⟩ := formatStep_next.1 h
  rfl

theorem sendStep_state (h : sendStep s = .next t) : t.state = s.state := by
  obtain ⟨v, -, -, rfl⟩ := sendStep_next.1 h
  rfl

theorem sendStep_fault (h : sendStep s = .next t) : t.fault = s.fault := by
  obtain ⟨v, -, -, rfl⟩ := sendStep_next.1 h
  rfl

theorem directSend_state {v : Byte} (h : directSend v s = .next t) : t.state = s.state := by
  obtain ⟨-, rfl⟩ := directSend_next.1 h
  rfl

theorem directSend_fault {v : Byte} (h : directSend v s = .next t) : t.fault = s.fault := by
  obtain ⟨-, rfl⟩ := directSend_next.1 h
  rfl

/-- R124, R126: the end of a line is the only move of `state` here. -/
theorem finishLine_state (before s : State) :
    (finishLine before s).state = s.state ∨ (finishLine before s).state = .idle := by
  rw [finishLine_eq]
  split
  · exact .inr rfl
  · exact .inl rfl

theorem finishLine_fault (before s : State) : (finishLine before s).fault = s.fault := by
  rw [finishLine_eq]
  split <;> rfl

theorem advanceFrame_state (v : Byte) (s : State) :
    (advanceFrame v s).state = s.state ∨ (advanceFrame v s).state = .idle := by
  rw [advanceFrame_eq]
  by_cases hlast : s.cidx.toNat = s.clen.toNat + 2
  · exact .inr (if_pos hlast)
  · exact .inl (if_neg hlast)

theorem advanceFrame_fault (v : Byte) (s : State) : (advanceFrame v s).fault = s.fault := by
  rw [advanceFrame_eq]

/-- R83, R72 to R74: an ENCSEL or WIRE row writes its output into the model's own field and nothing else
(log entries 8, 9). -/
theorem exec_combinational_next {i : Instr} (hi : i.space = .encsel ∨ i.space = .wire) (h : exec i s = .next t) :
    ∃ r, t = yieldResult r s := by
  cases i with
  | grayscaleFirst b => exact ⟨_, next_iff.1 h⟩
  | grayscaleSecond b => exact ⟨_, next_iff.1 h⟩
  | rgbHigh b => exact ⟨_, next_iff.1 h⟩
  | rgbLow b => exact ⟨_, next_iff.1 h⟩
  | wireNewframe => exact ⟨_, next_iff.1 h⟩
  | wireDebug n =>
    rcases execWireDebug_next.1 h with ⟨-, ht⟩ | ⟨-, -, x, -, ht⟩
    · exact ⟨_, ht⟩
    · exact ⟨_, ht⟩
  | _ => simp [Instr.space] at hi

theorem exec_combinational_state {i : Instr} (hi : i.space = .encsel ∨ i.space = .wire) (h : exec i s = .next t) :
    t.state = s.state := by
  obtain ⟨r, rfl⟩ := exec_combinational_next hi h
  rfl

theorem exec_combinational_fault {i : Instr} (hi : i.space = .encsel ∨ i.space = .wire) (h : exec i s = .next t) :
    t.fault = s.fault := by
  obtain ⟨r, rfl⟩ := exec_combinational_next hi h
  rfl

/-! ### What each operation does to `state` (R22) -/

theorem execNewframe_state (h : execNewframe s = .next t) :
    t.state = s.state ∨ s.state = .idle ∧ t.state = .cmd := by
  rcases execNewframe_next.1 h with ⟨-, rfl⟩ | ⟨-, -, rfl⟩ | ⟨-, hidle, rfl⟩
  · exact .inl rfl
  · exact .inl rfl
  · exact .inr ⟨hidle, rfl⟩

theorem execTextwr_state {a b : Byte} (h : execTextwr a b s = .next t) : t.state = s.state := by
  rcases execTextwr_next.1 h with ⟨-, rfl⟩ | ⟨-, -, rfl⟩ | ⟨-, -, -, rfl⟩ | ⟨-, -, -, rfl⟩ <;> rfl

theorem execDebug_state {n : Byte} (h : execDebug n s = .next t) :
    t.state = s.state ∨ n ≠ 0#8 ∧ s.state = .idle ∧ t.state = .cmd := by
  rcases execDebug_next.1 h with ⟨-, rfl⟩ | ⟨-, -, rfl⟩ | ⟨-, -, -, rfl⟩ | ⟨-, -, -, rfl⟩ | ⟨-, -, -, -, -, rfl⟩ |
    ⟨-, hidle, hn, -, -, rfl⟩
  case inr.inr.inr.inr.inr => exact .inr ⟨hn, hidle, rfl⟩
  all_goals exact .inl rfl

theorem execLinestart_state (h : execLinestart s = .next t) :
    t.state = s.state ∨ s.state = .idle ∧ t.state = .line := by
  rcases execLinestart_next.1 h with ⟨-, rfl⟩ | ⟨-, -, rfl⟩ | ⟨-, hidle, rfl⟩
  · exact .inl rfl
  · exact .inl rfl
  · exact .inr ⟨hidle, rfl⟩

theorem execLineend_state (h : execLineend s = .next t) :
    t.state = s.state ∨ (s.state = .line ∧ t.state = .drain) ∨
    (s.state = .line ∧ t.state = .idle ∧ s.cursor = s.wr) := by
  rcases execLineend_next.1 h with ⟨-, rfl⟩ | ⟨-, -, rfl⟩ | ⟨-, -, -, rfl⟩ | ⟨-, hline, -, hsent, rfl⟩ |
    ⟨-, hline, -, -, rfl⟩
  · exact .inl rfl
  · exact .inl rfl
  · exact .inl rfl
  · exact .inr (.inr ⟨hline, rfl, hsent⟩)
  · exact .inr (.inl ⟨hline, rfl⟩)

theorem execCapture_state {b : Byte} (h : execCapture b s = .next t) : t.state = s.state := by
  rcases execCapture_next.1 h with ⟨-, rfl⟩ | ⟨-, -, rfl⟩ | ⟨-, -, -, rfl⟩ | ⟨-, -, -, -, rfl⟩ |
    ⟨-, -, -, -, rfl⟩ <;> rfl

theorem execSlot_state (h : execSlot s = .next t) : t.state = s.state := by
  rcases execSlot_next.1 h with ⟨-, rfl⟩ | ⟨-, -, rfl⟩ | ⟨-, -, -, -, -, hformat⟩ | ⟨-, -, -, -, -, hattempt⟩
  · rfl
  · rfl
  · exact formatStep_state hformat
  · rcases attempt_next.1 hattempt with ⟨-, hsend⟩ | ⟨-, rfl⟩
    · exact sendStep_state (s := consumeDraw s) hsend
    · rfl

theorem execCmdStep_state (h : execCmdStep s = .next t) :
    t.state = s.state ∨ s.state = .cmd ∧ t.state = .idle := by
  rcases execCmdStep_next.1 h with ⟨-, rfl⟩ | ⟨-, hcmd, v, -, ⟨-, rfl⟩ | ⟨-, rfl⟩⟩
  · exact .inl rfl
  · exact .inl rfl
  · exact (advanceFrame_state v _).imp id fun hidle => ⟨hcmd, hidle⟩

theorem execDrainStep_state (h : execDrainStep s = .next t) :
    t.state = s.state ∨ s.state = .drain ∧ t.state = .idle := by
  rcases execDrainStep_next.1 h with ⟨-, rfl⟩ | ⟨-, -, -, -, hformat⟩ | ⟨-, -, -, -, -, rfl⟩ |
    ⟨-, hdrain, -, -, -, u, hsend, rfl⟩
  · exact .inl rfl
  · exact .inl (formatStep_state hformat)
  · exact .inl rfl
  · have hu : u.state = s.state := sendStep_state (s := consumeDraw s) hsend
    exact (finishLine_state s u).imp (·.trans hu) fun hidle => ⟨hdrain, hidle⟩

theorem execDirectStep_state (h : execDirectStep s = .next t) :
    t.state = s.state ∨ s.state = .drain ∧ t.state = .idle := by
  rcases execDirectStep_next.1 h with ⟨-, rfl⟩ | ⟨-, -, -, -, raw, -, ⟨-, rfl⟩ | ⟨-, u, hsend, rfl⟩⟩
  · exact .inl rfl
  · exact .inl rfl
  · have hu : u.state = s.state := directSend_state (s := consumeDraw s) hsend
    split
    next hdrain => exact (finishLine_state s u).imp (·.trans hu) fun hidle => ⟨hdrain, hidle⟩
    next => exact .inl hu

/-! ### What each operation does to `fault` (R24, R143) -/

theorem Cause.code_toNat_le (c : Cause) : c.code.toNat ≤ 8 := by
  cases c <;> decide

theorem execSlot_fault (h : execSlot s = .next t) : t.fault = s.fault := by
  rcases execSlot_next.1 h with ⟨-, rfl⟩ | ⟨-, -, rfl⟩ | ⟨-, -, -, -, -, hformat⟩ | ⟨-, -, -, -, -, hattempt⟩
  · rfl
  · rfl
  · exact formatStep_fault hformat
  · rcases attempt_next.1 hattempt with ⟨-, hsend⟩ | ⟨-, rfl⟩
    · exact sendStep_fault (s := consumeDraw s) hsend
    · rfl

theorem execCmdStep_fault (h : execCmdStep s = .next t) : t.fault = s.fault := by
  rcases execCmdStep_next.1 h with ⟨-, rfl⟩ | ⟨-, -, v, -, ⟨-, rfl⟩ | ⟨-, rfl⟩⟩
  · rfl
  · rfl
  · exact advanceFrame_fault v _

theorem execDrainStep_fault (h : execDrainStep s = .next t) : t.fault = s.fault := by
  rcases execDrainStep_next.1 h with ⟨-, rfl⟩ | ⟨-, -, -, -, hformat⟩ | ⟨-, -, -, -, -, rfl⟩ |
    ⟨-, -, -, -, -, u, hsend, rfl⟩
  · rfl
  · exact formatStep_fault hformat
  · rfl
  · exact (finishLine_fault s u).trans (sendStep_fault (s := consumeDraw s) hsend)

theorem execDirectStep_fault (h : execDirectStep s = .next t) : t.fault = s.fault := by
  rcases execDirectStep_next.1 h with ⟨-, rfl⟩ | ⟨-, -, -, -, raw, -, ⟨-, rfl⟩ | ⟨-, u, hsend, rfl⟩⟩
  · rfl
  · rfl
  · have hu : u.fault = s.fault := directSend_fault (s := consumeDraw s) hsend
    split
    · exact (finishLine_fault s u).trans hu
    · exact hu

/-- R143 between two states: `fault` is kept, or a block that had none raised a cause and wrote nothing else. -/
def KeepsOrRaises (s t : State) : Prop := t.fault = s.fault ∨ s.fault = 0#4 ∧ ∃ c, t = raiseFault c s

theorem exec_keepsOrRaises {i : Instr} (h : exec i s = .next t) : KeepsOrRaises s t := by
  cases i with
  | nop => exact .inl (congrArg State.fault (next_iff.1 h))
  | newframe =>
    rcases execNewframe_next.1 h with ⟨-, rfl⟩ | ⟨hf, -, rfl⟩ | ⟨-, -, rfl⟩
    · exact .inl rfl
    · exact .inr ⟨hf, _, rfl⟩
    · exact .inl rfl
  | textwr a b =>
    rcases execTextwr_next.1 h with ⟨-, rfl⟩ | ⟨hf, -, rfl⟩ | ⟨hf, -, -, rfl⟩ | ⟨-, -, -, rfl⟩
    · exact .inl rfl
    · exact .inr ⟨hf, _, rfl⟩
    · exact .inr ⟨hf, _, rfl⟩
    · exact .inl rfl
  | debug n =>
    rcases execDebug_next.1 h with ⟨-, rfl⟩ | ⟨hf, -, rfl⟩ | ⟨-, -, -, rfl⟩ | ⟨hf, -, -, rfl⟩ |
      ⟨hf, -, -, -, -, rfl⟩ | ⟨-, -, -, -, -, rfl⟩
    · exact .inl rfl
    · exact .inr ⟨hf, _, rfl⟩
    · exact .inl rfl
    · exact .inr ⟨hf, _, rfl⟩
    · exact .inr ⟨hf, _, rfl⟩
    · exact .inl rfl
  | linestart =>
    rcases execLinestart_next.1 h with ⟨-, rfl⟩ | ⟨hf, -, rfl⟩ | ⟨-, -, rfl⟩
    · exact .inl rfl
    · exact .inr ⟨hf, _, rfl⟩
    · exact .inl rfl
  | lineend =>
    rcases execLineend_next.1 h with ⟨-, rfl⟩ | ⟨hf, -, rfl⟩ | ⟨hf, -, -, rfl⟩ | ⟨-, -, -, -, rfl⟩ | ⟨-, -, -, -, rfl⟩
    · exact .inl rfl
    · exact .inr ⟨hf, _, rfl⟩
    · exact .inr ⟨hf, _, rfl⟩
    · exact .inl rfl
    · exact .inl rfl
  | capture b =>
    rcases execCapture_next.1 h with ⟨-, rfl⟩ | ⟨hf, -, rfl⟩ | ⟨hf, -, -, rfl⟩ | ⟨hf, -, -, -, rfl⟩ | ⟨-, -, -, -, rfl⟩
    · exact .inl rfl
    · exact .inr ⟨hf, _, rfl⟩
    · exact .inr ⟨hf, _, rfl⟩
    · exact .inr ⟨hf, _, rfl⟩
    · exact .inl rfl
  | slot => exact .inl (execSlot_fault h)
  | grayscaleFirst b => exact .inl (exec_combinational_fault (.inl rfl) h)
  | grayscaleSecond b => exact .inl (exec_combinational_fault (.inl rfl) h)
  | rgbHigh b => exact .inl (exec_combinational_fault (.inl rfl) h)
  | rgbLow b => exact .inl (exec_combinational_fault (.inl rfl) h)
  | cmdStep => exact .inl (execCmdStep_fault h)
  | drainStep => exact .inl (execDrainStep_fault h)
  | directStep => exact .inl (execDirectStep_fault h)
  | wireNewframe => exact .inl (exec_combinational_fault (.inr rfl) h)
  | wireDebug n => exact .inl (exec_combinational_fault (.inr rfl) h)

/-- A code raises at most one cause, F_ILLEGAL included. -/
theorem runCode_keepsOrRaises {c : Code} (h : runCode c s = .next t) : KeepsOrRaises s t := by
  rcases runCode_next h with ⟨i, -, hexec⟩ | ⟨-, hf, rfl⟩ | rfl
  · exact exec_keepsOrRaises hexec
  · exact .inr ⟨hf, _, rfl⟩
  · exact .inl rfl

/-- The control word, the capture or their collision (R70) raises at most one cause. -/
theorem secondOfCycle_keepsOrRaises {p : PortSample} (h : secondOfCycle p s = .next t) : KeepsOrRaises s t := by
  rcases secondOfCycle_next h with ⟨c, -, hcode⟩ | ⟨hf, rfl⟩ | rfl
  · exact runCode_keepsOrRaises hcode
  · exact .inr ⟨hf, _, rfl⟩
  · exact .inl rfl

theorem firstOfCycle_keepsOrRaises {slot : Bool} (h : firstOfCycle slot s = .next t) : KeepsOrRaises s t := by
  rcases firstOfCycle_next.1 h with ⟨i, -, hexec⟩ | ⟨-, -, hexec⟩ | ⟨-, -, rfl⟩
  · exact exec_keepsOrRaises hexec
  · exact exec_keepsOrRaises hexec
  · exact .inl rfl

/-- R24 between two states: `fault` is the same, or it was 0 and is at most 8. Unlike the raising of one cause it
composes, so it is what a cycle of two events keeps. -/
def FaultSticky (s t : State) : Prop := t.fault = s.fault ∨ s.fault = 0#4 ∧ t.fault.toNat ≤ 8

theorem KeepsOrRaises.faultSticky (h : KeepsOrRaises s t) : FaultSticky s t := by
  rcases h with hkeep | ⟨hf, c, rfl⟩
  · exact .inl hkeep
  · exact .inr ⟨hf, c.code_toNat_le⟩

theorem FaultSticky.trans {u : State} (hsu : FaultSticky s u) (hut : FaultSticky u t) : FaultSticky s t := by
  rcases hut with hkeep | ⟨hu, hle⟩
  · unfold FaultSticky
    rwa [hkeep]
  · rcases hsu with hkeep | ⟨hs, -⟩
    · exact .inr ⟨hkeep ▸ hu, hle⟩
    · exact .inr ⟨hs, hle⟩

theorem runCycle_faultSticky {p : PortSample} (h : runCycle p s = .next t) : FaultSticky s t := by
  obtain ⟨u, v, hfirst, hsecond, rfl⟩ := runCycle_next.1 h
  have hv : FaultSticky s v :=
    (firstOfCycle_keepsOrRaises hfirst).faultSticky.trans (secondOfCycle_keepsOrRaises hsecond).faultSticky
  exact hv

/-- Every move but the reset of both domains obeys R24. -/
theorem runEvent_faultSticky {e : Event} (h : runEvent e s = .next t) (he : e ≠ .reset true true) :
    FaultSticky s t := by
  cases e with
  | op c => exact (runCode_keepsOrRaises h).faultSticky
  | cycle p => exact runCycle_faultSticky h
  | sclk canAccept =>
    obtain rfl := next_iff.1 h
    exact .inl (by rw [sclkEdge_eq])
  | pclk runs =>
    obtain rfl := next_iff.1 h
    exact .inl rfl
  | reset prst srst =>
    rcases runReset_next.1 h with ⟨rfl, rfl, -, -⟩ | ⟨-, -, rfl⟩
    · exact absurd rfl he
    · exact .inl rfl

theorem step_faultSticky (h : step s = .next t) (he : s.inputs.head? ≠ some (.reset true true)) :
    FaultSticky s t := by
  obtain ⟨-, ⟨-, -, hcycle⟩ | ⟨-, -, rfl⟩ | ⟨e, l, hin, ⟨-, -, rfl⟩ | ⟨-, hevent⟩⟩⟩ := step_next.1 h
  · exact runCycle_faultSticky hcycle
  · exact .inl rfl
  · exact .inl rfl
  · exact runEvent_faultSticky (s := popInput s) hevent fun hreset => he (by rw [hin, hreset, List.head?_cons])

/-- A step that answers where the reset of both domains is listed next takes that reset (R165); with PCLK stopped it is
refused (log entries 13, 20). -/
theorem step_reset (h : step s = .next t) (he : s.inputs.head? = some (.reset true true)) :
    t = resetBlock (popInput s) := by
  obtain ⟨l, hin⟩ := List.head?_eq_some_iff.1 he
  obtain ⟨-, ⟨hnil, -⟩ | ⟨hnil, -⟩ | ⟨e, l', hin', hevent⟩⟩ := step_next.1 h
  · simp [hnil] at he
  · simp [hnil] at he
  · obtain ⟨rfl, -⟩ := List.cons.inj (hin'.symm.trans hin)
    rcases hevent with ⟨hneeds, -, -⟩ | ⟨-, hreset⟩
    · cases hneeds
    · rcases runReset_next.1 hreset with ⟨-, -, -, rfl⟩ | ⟨hfalse, -, -⟩
      · rfl
      · cases hfalse

/-! ### The synchronisers of the hand-off (R41) -/

/-- A clock edge of a synchroniser drops its last stage. -/
theorem shiftIn_concat (b x : Bool) (stages : List Bool) : shiftIn b (stages ++ [x]) = b :: stages := by
  simp [shiftIn]

theorem ackP_of_concat {x : Bool} {stages : List Bool} (h : s.ackSync = stages ++ [x]) : ackP s = x := by
  simp [ackP, h]

theorem reqS_of_concat {x : Bool} {stages : List Bool} (h : s.reqSync = stages ++ [x]) : reqS s = x := by
  simp [reqS, h]

/-- R42, R153: where the next draw is the crossing's, the attempt sees `ack_p == req`. -/
theorem ready_of_crossing {l : List Draw} (h : s.draws = .crossing :: l) : ready s = (ackP s == s.req) :=
  ready_cons h

end

/-- Settles O29, operation by operation: each has one lemma that says what it does to `state`. -/
theorem legalTransitions : Obligations.LegalTransitions := by
  intro i s t h hmoves
  cases i with
  | newframe =>
    obtain ⟨hs, ht⟩ := (execNewframe_state h).resolve_left hmoves
    exact .inl ⟨hs, ht, .inl rfl⟩
  | debug n =>
    obtain ⟨hn, hs, ht⟩ := (execDebug_state h).resolve_left hmoves
    exact .inl ⟨hs, ht, .inr ⟨n, hn, rfl⟩⟩
  | cmdStep =>
    obtain ⟨hs, ht⟩ := (execCmdStep_state h).resolve_left hmoves
    exact .inr (.inl ⟨hs, ht, rfl⟩)
  | linestart =>
    obtain ⟨hs, ht⟩ := (execLinestart_state h).resolve_left hmoves
    exact .inr (.inr (.inl ⟨hs, ht, rfl⟩))
  | lineend =>
    rcases (execLineend_state h).resolve_left hmoves with ⟨hs, ht⟩ | ⟨hs, ht, hsent⟩
    · exact .inr (.inr (.inr (.inl ⟨hs, ht, rfl⟩)))
    · exact .inr (.inr (.inr (.inr (.inl ⟨hs, ht, rfl, hsent⟩))))
  | drainStep =>
    obtain ⟨hs, ht⟩ := (execDrainStep_state h).resolve_left hmoves
    exact .inr (.inr (.inr (.inr (.inr ⟨hs, ht, .inl rfl⟩))))
  | directStep =>
    obtain ⟨hs, ht⟩ := (execDirectStep_state h).resolve_left hmoves
    exact .inr (.inr (.inr (.inr (.inr ⟨hs, ht, .inr rfl⟩))))
  | textwr a b => exact absurd (execTextwr_state h) hmoves
  | capture b => exact absurd (execCapture_state h) hmoves
  | slot => exact absurd (execSlot_state h) hmoves
  | wireDebug n => exact absurd (exec_combinational_state (.inr rfl) h) hmoves
  | nop => exact absurd (congrArg State.state (next_iff.1 h)) hmoves
  | grayscaleFirst b => exact absurd (exec_combinational_state (.inl rfl) h) hmoves
  | grayscaleSecond b => exact absurd (exec_combinational_state (.inl rfl) h) hmoves
  | rgbHigh b => exact absurd (exec_combinational_state (.inl rfl) h) hmoves
  | rgbLow b => exact absurd (exec_combinational_state (.inl rfl) h) hmoves
  | wireNewframe => exact absurd (exec_combinational_state (.inr rfl) h) hmoves

/-- Settles O35: every step but the reset of both domains obeys R24 by `step_faultSticky`, and that reset is
`resetBlock`. -/
theorem faultIsStickyUntilReset : Obligations.FaultIsStickyUntilReset := by
  intro s t h
  have hzero_of_reset (he : s.inputs.head? = some (.reset true true)) : t.fault = 0#4 := by
    rw [step_reset h he, resetBlock_fault]
  refine ⟨fun hf he => ?_, fun hf => ?_, hzero_of_reset⟩
  · exact (step_faultSticky h he).resolve_right fun hzero => hf hzero.1
  · by_cases he : s.inputs.head? = some (.reset true true)
    · simp [hzero_of_reset he]
    · rcases step_faultSticky h he with hkeep | ⟨-, hle⟩
      · simp [hkeep, hf]
      · exact hle

/-- Settles O47: on either side the synchroniser's last stage is what its domain sees, and a clock edge drops it. -/
theorem crossingHandshake : Obligations.CrossingHandshake := by
  refine ⟨fun s l x stages hdraws hack => ⟨?_, ?_, rfl⟩, fun s x stages hreq => ⟨fun hne => ?_, fun heq => ?_, ?_⟩⟩
  · rw [ready_of_crossing hdraws, ackP_of_concat hack]
  · rw [pclkEdge_ackSync, hack, shiftIn_concat]
  · simp [sclkEdge_eq, reqS_of_concat hreq, hreq, shiftIn_concat, hne]
  · simp [sclkEdge_eq, reqS_of_concat hreq, hreq, shiftIn_concat, heq]
  · simp [sclkEdge_eq, hreq, shiftIn_concat]

end Sys2Proof.Machine

/-! PROOFS. What one operation does to a state that meets the block's invariant: a list of its effects
(`Effect`, `exec_effect`), and the invariant after each of them. -/
namespace Sys2Proof.Machine

/-! ### The encoders leave an encoded byte as it is (spec/40_byte_encoder.md R91) -/

theorem grayscaleFirst_idem (b : Byte) : grayscaleFirst (grayscaleFirst b) = grayscaleFirst b := by
  by_cases hzero : b &&& 0xFE#8 = 0x00#8
  · simp [grayscaleFirst, hzero]
  · simp [grayscaleFirst, hzero, BitVec.and_assoc]

theorem grayscaleSecond_idem (b : Byte) : grayscaleSecond (grayscaleSecond b) = grayscaleSecond b := by
  simp [grayscaleSecond, BitVec.or_assoc]

/-- Clearing and setting fixed bits once more changes nothing. -/
theorem and_or_idem (b mask bits : Byte) : ((b &&& mask ||| bits) &&& mask) ||| bits = b &&& mask ||| bits := by
  ext i hi
  simp only [BitVec.getElem_or, BitVec.getElem_and]
  cases b[i] <;> cases mask[i] <;> cases bits[i] <;> rfl

/-- R86 decides on bit 5 and writes bit 3. -/
theorem rgbHigh_idem (b : Byte) : rgbHigh (rgbHigh b) = rgbHigh b := by
  cases hbit : b[5]
  · simp [rgbHigh, hbit, BitVec.or_assoc]
  · simp [rgbHigh, hbit, BitVec.and_assoc]

/-- R87 decides on bit 3 and writes bits 5 and 0. -/
theorem rgbLow_idem (b : Byte) : rgbLow (rgbLow b) = rgbLow b := by
  cases hbit : b[3]
  · simp [rgbLow, hbit, and_or_idem]
  · simp [rgbLow, hbit, BitVec.or_assoc]

theorem encoderOf_idem (sel : BitVec 2) (b : Byte) : encoderOf sel (encoderOf sel b) = encoderOf sel b := by
  unfold encoderOf
  split_ifs
  · exact grayscaleFirst_idem b
  · exact grayscaleSecond_idem b
  · exact rgbHigh_idem b
  · exact rgbLow_idem b

theorem appliedEncoder_idem (s : State) (b : Byte) : appliedEncoder s (appliedEncoder s b) = appliedEncoder s b :=
  encoderOf_idem _ b

/-! ### Counters, frames, texts -/

/-- A line index below another does not wrap (spec/20_memory.md R48). -/
theorem LineIndex.toNat_succ {x y : LineIndex} (h : x < y) : (x + 1#11).toNat = x.toNat + 1 := by
  bv_omega

theorem xorAll_concat (p : List Byte) (v : Byte) : xorAll (p ++ [v]) = xorAll p ^^^ v := by
  simp [xorAll]

theorem frameOf_length (p : List Byte) : (frameOf p).length = p.length + 3 := by
  simp [frameOf]

theorem frameOf_getElem?_payload {p : List Byte} {j : Nat} (hj : j < p.length) :
    (frameOf p)[j + 2]? = some p[j] := by
  simp [frameOf, List.getElem?_append_left hj, List.getElem?_eq_getElem hj]

/-- Every written mark below `n` gives the text bytes their values (R38, R100). -/
theorem BlockInv.textBytes_of_allMarked {s : State} (hs : BlockInv s) {n : Nat} (hn : n ≤ 254)
    (hmarked : allMarked s n = true) : (textBytes s.txt n).isSome = true :=
  textBytes_isSome.2 fun i hi => hs.marks i (by omega) ▸ (allMarked_iff s n).1 hmarked i hi

/-- The payload of a debug command: the type byte and the text (R74, R101). -/
theorem commandPayload_debug {s : State} {x : List Byte} (hkind : s.ckind = .debug)
    (hx : textBytes s.txt (s.clen.toNat - 1) = some x) : commandPayload s = debugPayload x := by
  simp [commandPayload, hkind, hx]

theorem commandPayload_newFrame {s : State} (hkind : s.ckind = .newFrame) :
    commandPayload s = newFramePayload s.cfg := by
  simp [commandPayload, hkind]

/-- The payload bytes the framer reads are those of the command's payload (R96, R101). -/
theorem BlockInv.payloadByte_eq {s : State} (hs : BlockInv s) (hcmd : s.state = .cmd) {j : Nat}
    (hj : j < (commandPayload s).length) : payloadByte s j = .ok (commandPayload s)[j] := by
  cases hkind : s.ckind with
  | newFrame =>
    have hp := commandPayload_newFrame hkind
    rw [hp] at hj
    simp [payloadByte, hkind, hp, hj]
  | debug =>
    obtain ⟨x, hx⟩ := Option.isSome_iff_exists.1 (hs.cmd_text hcmd hkind)
    have hp := commandPayload_debug hkind hx
    obtain ⟨hlen, hread⟩ := textBytes_spec hx
    simp only [payloadByte, hkind, hp, debugPayload]
    rw [hp, debugPayload, List.length_cons] at hj
    cases j with
    | zero => simp
    | succ k =>
      have hk : s.txt.read k = some x[k] := by
        rw [hread k (by omega), List.getElem?_eq_getElem]
      simp [readText, hk]

/-- R102: the byte at `cidx` is the byte of the command's frame (R73) at that position. -/
theorem BlockInv.frameByte_eq {s : State} (hs : BlockInv s) (hcmd : s.state = .cmd) :
    ∃ v, frameByte s = .ok v ∧ (frameOf (commandPayload s))[s.cidx.toNat]? = some v := by
  obtain ⟨hlen, -⟩ := hs.cmd_len hcmd
  have hidx := hs.cmd_idx hcmd
  have hchk := hs.cmd_chk hcmd
  unfold frameByte
  split
  next hmarker => exact ⟨_, rfl, by simp [frameOf, hmarker]⟩
  next hmarker =>
  split
  next hlength => exact ⟨_, rfl, by simp [frameOf, hlength, ← hlen]⟩
  next hlength =>
  obtain ⟨j, hj⟩ : ∃ j, s.cidx.toNat = j + 2 := ⟨s.cidx.toNat - 2, by omega⟩
  split
  next hpayload =>
    have hjlen : j < (commandPayload s).length := by omega
    exact ⟨_, by simpa [hj] using hs.payloadByte_eq hcmd hjlen,
      hj ▸ frameOf_getElem?_payload hjlen⟩
  next hchecksum =>
    have hjlen : j = (commandPayload s).length := by omega
    exact ⟨_, rfl, by simp [frameOf, hj, hjlen, hchk]⟩

/-! ### The effects of an operation -/

/-- What SEND and DIRECT_STEP read: the unsent byte at `cursor` of the current line (spec/20_memory.md R49). -/
structure Pending (s : State) (v : Byte) : Prop where
  in_line : s.state = .line ∨ s.state = .drain
  unsent : s.cursor < s.wr
  read : s.lb.read s.cursor.toNat = some v

/-- `LB[cursor] <- enc(v)`: the store of FORMAT and DIRECT_STEP (R116, R126). -/
def encodeInPlace (v : Byte) (s : State) : State :=
  { s with lb := s.lb.write s.cursor.toNat (appliedEncoder s v) }

/-- `LB[wr] <- b; wr <- wr + 1`: an accepted capture (R113). -/
def pushByte (b : Byte) (s : State) : State := bumpWr { s with lb := s.lb.write s.wr.toNat b }

/-- The state after `v` is sent: SEND (R117), and in DRAIN the end of the line with its last byte (R124, R126). -/
def sendByte (v : Byte) (s : State) : State :=
  setCtl (if s.state = .drain ∧ s.cursor.toNat + 1 = s.wr.toNat then .idle else s.state)
    (sentFlags (bumpCursor (emit v (consumeDraw s))))

theorem Pending.ne_cmd {s : State} {v : Byte} (hv : Pending s v) : s.state ≠ .cmd := by
  rcases hv.in_line with h | h <;> simp [h]

section
variable (s : State)

@[simp] theorem encodeInPlace_cursor (v : Byte) : (encodeInPlace v s).cursor = s.cursor := rfl
@[simp] theorem encodeInPlace_formatted (v : Byte) : (encodeInPlace v s).formatted = s.formatted := rfl
@[simp] theorem pushByte_cursor (b : Byte) : (pushByte b s).cursor = s.cursor := rfl
@[simp] theorem sendByte_wr (v : Byte) : (sendByte v s).wr = s.wr := rfl
@[simp] theorem sendByte_wire (v : Byte) : (sendByte v s).wire = s.wire ++ [v] := rfl
theorem sendByte_state (v : Byte) : (sendByte v s).state =
    if s.state = .drain ∧ s.cursor.toNat + 1 = s.wr.toNat then .idle else s.state := rfl

theorem read_encodeInPlace (v : Byte) (i : Nat) : (encodeInPlace v s).lb.read i =
    if i = s.cursor.toNat then some (appliedEncoder s v) else s.lb.read i :=
  Memory.read_write s.lb s.cursor.toNat i _

theorem read_pushByte (b : Byte) (i : Nat) :
    (pushByte b s).lb.read i = if i = s.wr.toNat then some b else s.lb.read i :=
  Memory.read_write s.lb s.wr.toNat i b

/-- The byte at `cursor`, encoded in place, is still the pending one. -/
theorem Pending.after_encodeInPlace {s : State} {v : Byte} (hv : Pending s v) :
    Pending (encodeInPlace v s) (appliedEncoder s v) :=
  ⟨hv.in_line, hv.unsent, by simp [read_encodeInPlace]⟩

end

/-- What the operations that are no inputs do: slots and internal steps bring owed bytes to the wire, and the ENCSEL and
WIRE rows yield a result. Each case holds what it rests on: the byte it reads, the readiness it saw. -/
inductive OutputEffect (s : State) : State → Prop
  | yielded (r : List Byte) : OutputEffect s (yieldResult r s)
  | stayed : OutputEffect s s
  | retried (hready : ready s = false) : OutputEffect s (consumeDraw s)
  | formatted (v : Byte) (hv : Pending s v) (hmode : s.cfg.mode = .buffered) (hraw : s.formatted = false) :
      OutputEffect s (setFormatted (encodeInPlace v s))
  | sent (v : Byte) (hv : Pending s v) (hready : ready s = true) (henc : appliedEncoder s v = v) :
      OutputEffect s (sendByte v s)
  | sentDirect (v : Byte) (hv : Pending s v) (hready : ready s = true) (hraw : s.formatted = false) :
      OutputEffect s (sendByte (appliedEncoder s v) (encodeInPlace v s))
  | framed (v : Byte) (hcmd : s.state = .cmd) (hready : ready s = true) (hv : frameByte s = .ok v) :
      OutputEffect s (advanceFrame v (emit v (consumeDraw s)))

/-- What an operation does to a state that meets the invariant. An accepted input holds the guards it passed; a fault
holds its cause but not its reason, which the inversion lemma of the operation gives. -/
inductive Effect (s : State) : Instr → State → Prop
  | ignored (i : Instr) (hf : s.fault ≠ 0#4) : Effect s i s
  | raised (i : Instr) (c : Cause) (hf : s.fault = 0#4) : Effect s i (raiseFault c s)
  | nop : Effect s .nop s
  | newframe (hidle : s.state = .idle) : Effect s .newframe (startCommand .newFrame 4#8 s)
  | textwr (a b : Byte) (hcmd : s.state ≠ .cmd) (ha : a.toNat < 254) :
      Effect s (.textwr a b) (writeText a.toNat b s)
  | debugEmpty : Effect s (.debug 0#8) s
  | debug (n : Byte) (hidle : s.state = .idle) (hpos : n ≠ 0#8) (hn : n.toNat ≤ 254)
      (hmarked : allMarked s n.toNat = true) : Effect s (.debug n) (startCommand .debug (n + 1#8) s)
  | linestart (hidle : s.state = .idle) : Effect s .linestart (openLine s)
  | capture (b : Byte) (hline : s.state = .line) (hroom : s.wr < lineBytes s.cfg)
      (hfree : ¬ (s.cfg.mode = .direct ∧ s.cursor < s.wr)) : Effect s (.capture b) (pushByte b s)
  | lineend (hline : s.state = .line) (hfull : s.wr = lineBytes s.cfg) :
      Effect s .lineend (setCtl (if s.cursor = s.wr then .idle else .drain) s)
  | output (i : Instr) (hi : isInput i = false) {t : State} (hout : OutputEffect s t) : Effect s i t

section
variable {s t : State} {i : Instr}

theorem sendByte_of_last (v : Byte) (hlast : s.state = .drain ∧ s.cursor.toNat + 1 = s.wr.toNat) :
    sendByte v s = setCtl .idle (sentFlags (bumpCursor (emit v (consumeDraw s)))) := by
  rw [sendByte, if_pos hlast]

theorem sendByte_of_not_last (v : Byte) (hlast : ¬ (s.state = .drain ∧ s.cursor.toNat + 1 = s.wr.toNat)) :
    sendByte v s = sentFlags (bumpCursor (emit v (consumeDraw s))) := by
  rw [sendByte, if_neg hlast]
  rfl

/-- R124, R126: in DRAIN the line ends with its last byte. -/
theorem sendByte_of_drain (v : Byte) (hdrain : s.state = .drain) :
    sendByte v s = finishLine s (sentFlags (bumpCursor (emit v (consumeDraw s)))) := by
  rw [finishLine_eq]
  split
  next hlast => exact sendByte_of_last v ⟨hdrain, hlast⟩
  next hlast => exact sendByte_of_not_last v fun h => hlast h.2

theorem sendByte_of_line (v : Byte) (hline : s.state = .line) :
    sendByte v s = sentFlags (bumpCursor (emit v (consumeDraw s))) :=
  sendByte_of_not_last v fun h => by simp [hline] at h

theorem formatStep_effect (hline : s.state = .line ∨ s.state = .drain)
    (hmode : s.cfg.mode = .buffered) (hraw : s.formatted = false) (h : formatStep s = .next t) : OutputEffect s t := by
  obtain ⟨v, hlt, hread, -, rfl⟩ := formatStep_next.1 h
  exact .formatted v ⟨hline, hlt, hread⟩ hmode hraw

/-- A byte SEND takes is an encoded one (R132(e)). -/
theorem BlockInv.sendStep_pending (hs : BlockInv s) (hline : s.state = .line ∨ s.state = .drain)
    (hformatted : s.formatted = true) (h : sendStep (consumeDraw s) = .next t) :
    ∃ v, Pending s v ∧ appliedEncoder s v = v ∧ t = sentFlags (bumpCursor (emit v (consumeDraw s))) := by
  obtain ⟨v, hlt, hread, ht⟩ := sendStep_next.1 h
  exact ⟨v, ⟨hline, hlt, hread⟩, hs.formatted_encoded hformatted v hread, ht⟩

theorem execSlot_effect (hs : BlockInv s) (h : execSlot s = .next t) : OutputEffect s t := by
  rcases execSlot_next.1 h with ⟨-, rfl⟩ | ⟨-, -, rfl⟩ | ⟨-, hline, hmode, -, hraw, hformat⟩ |
    ⟨-, hline, -, -, hformatted, hattempt⟩
  · exact .stayed
  · exact .stayed
  · exact formatStep_effect (.inl hline) hmode hraw hformat
  · rcases attempt_next.1 hattempt with ⟨hready, hsend⟩ | ⟨hready, rfl⟩
    · obtain ⟨v, hv, henc, rfl⟩ := hs.sendStep_pending (.inl hline) hformatted hsend
      exact sendByte_of_line v hline ▸ .sent v hv hready henc
    · exact .retried hready

theorem execDrainStep_effect (hs : BlockInv s) (h : execDrainStep s = .next t) : OutputEffect s t := by
  rcases execDrainStep_next.1 h with ⟨-, rfl⟩ | ⟨-, hdrain, hmode, hraw, hformat⟩ | ⟨-, -, -, -, hready, rfl⟩ |
    ⟨-, hdrain, -, hformatted, hready, u, hsend, rfl⟩
  · exact .stayed
  · exact formatStep_effect (.inr hdrain) hmode hraw hformat
  · exact .retried hready
  · obtain ⟨v, hv, henc, rfl⟩ := hs.sendStep_pending (.inr hdrain) hformatted hsend
    exact sendByte_of_drain v hdrain ▸ .sent v hv hready henc

/-- A DIRECT_STEP stores the encoded byte and sends it; `formatted` is 0 in DIRECT mode (R132(b)). -/
theorem directSend_eq {v : Byte} {u : State} (hraw : s.formatted = false)
    (h : directSend (appliedEncoder s v) (consumeDraw s) = .next u) :
    u = sentFlags (bumpCursor (emit (appliedEncoder s v) (consumeDraw (encodeInPlace v s)))) := by
  obtain ⟨-, rfl⟩ := directSend_next.1 h
  simp [toggleHighByte, sentFlags, bumpCursor, emit, consumeDraw, encodeInPlace, hraw]

theorem execDirectStep_effect (hs : BlockInv s) (h : execDirectStep s = .next t) : OutputEffect s t := by
  rcases execDirectStep_next.1 h with
    ⟨-, rfl⟩ | ⟨-, hmode, hline, hlt, v, hread, ⟨hready, rfl⟩ | ⟨hready, u, hsend, rfl⟩⟩
  · exact .stayed
  · exact .retried hready
  · have hraw : s.formatted = false := by
      by_contra hformatted
      have := (hs.formatted_pending (by simpa using hformatted)).1
      simp [hmode] at this
    have heffect : OutputEffect s _ := .sentDirect v ⟨hline, hlt, hread⟩ hready hraw
    rw [directSend_eq hraw hsend]
    split
    next hdrain => exact sendByte_of_drain (s := encodeInPlace v s) _ hdrain ▸ heffect
    next hdrain => exact sendByte_of_line (s := encodeInPlace v s) _ (hline.resolve_right hdrain) ▸ heffect

theorem execCmdStep_effect (h : execCmdStep s = .next t) : OutputEffect s t := by
  rcases execCmdStep_next.1 h with ⟨-, rfl⟩ | ⟨-, hcmd, v, hv, ⟨hready, rfl⟩ | ⟨hready, rfl⟩⟩
  · exact .stayed
  · exact .retried hready
  · exact .framed v hcmd hready hv

theorem execDebug_effect {n : Byte} (h : execDebug n s = .next t) : Effect s (.debug n) t := by
  rcases execDebug_next.1 h with ⟨hf, rfl⟩ | ⟨hf, -, rfl⟩ | ⟨-, -, rfl, rfl⟩ | ⟨hf, -, -, rfl⟩ |
    ⟨hf, -, -, -, -, rfl⟩ | ⟨-, hidle, hpos, hn, hmarked, rfl⟩
  · exact .ignored _ hf
  · exact .raised _ _ hf
  · exact .debugEmpty
  · exact .raised _ _ hf
  · exact .raised _ _ hf
  · exact .debug n hidle hpos hn hmarked

theorem execCapture_effect {b : Byte} (h : execCapture b s = .next t) : Effect s (.capture b) t := by
  rcases execCapture_next.1 h with ⟨hf, rfl⟩ | ⟨hf, -, rfl⟩ | ⟨hf, -, -, rfl⟩ | ⟨hf, -, -, -, rfl⟩ |
    ⟨-, hline, hroom, hfree, rfl⟩
  · exact .ignored _ hf
  · exact .raised _ _ hf
  · exact .raised _ _ hf
  · exact .raised _ _ hf
  · exact .capture b hline hroom hfree

theorem execLineend_effect (h : execLineend s = .next t) : Effect s .lineend t := by
  rcases execLineend_next.1 h with ⟨hf, rfl⟩ | ⟨hf, -, rfl⟩ | ⟨hf, -, -, rfl⟩ | ⟨-, hline, hfull, hall, rfl⟩ |
    ⟨-, hline, hfull, hall, rfl⟩
  · exact .ignored _ hf
  · exact .raised _ _ hf
  · exact .raised _ _ hf
  · simpa [hall] using Effect.lineend hline hfull
  · simpa [hall] using Effect.lineend hline hfull

theorem exec_combinational_effect (hi : i.space = .encsel ∨ i.space = .wire) (h : exec i s = .next t) :
    Effect s i t := by
  obtain ⟨r, rfl⟩ := exec_combinational_next hi h
  exact .output i (by rcases hi with hi | hi <;> simp [isInput, hi]) (.yielded r)

/-- Every operation has one of the listed effects. -/
theorem exec_effect (hs : BlockInv s) (h : exec i s = .next t) : Effect s i t := by
  cases i with
  | nop => exact next_iff.1 h ▸ .nop
  | newframe =>
    rcases execNewframe_next.1 h with ⟨hf, rfl⟩ | ⟨hf, -, rfl⟩ | ⟨-, hidle, rfl⟩
    · exact .ignored _ hf
    · exact .raised _ _ hf
    · exact .newframe hidle
  | textwr a b =>
    rcases execTextwr_next.1 h with ⟨hf, rfl⟩ | ⟨hf, -, rfl⟩ | ⟨hf, -, -, rfl⟩ | ⟨-, hcmd, ha, rfl⟩
    · exact .ignored _ hf
    · exact .raised _ _ hf
    · exact .raised _ _ hf
    · exact .textwr a b hcmd ha
  | debug n => exact execDebug_effect h
  | linestart =>
    rcases execLinestart_next.1 h with ⟨hf, rfl⟩ | ⟨hf, -, rfl⟩ | ⟨-, hidle, rfl⟩
    · exact .ignored _ hf
    · exact .raised _ _ hf
    · exact .linestart hidle
  | lineend => exact execLineend_effect h
  | capture b => exact execCapture_effect h
  | slot => exact .output _ rfl (execSlot_effect hs h)
  | grayscaleFirst b => exact exec_combinational_effect (.inl rfl) h
  | grayscaleSecond b => exact exec_combinational_effect (.inl rfl) h
  | rgbHigh b => exact exec_combinational_effect (.inl rfl) h
  | rgbLow b => exact exec_combinational_effect (.inl rfl) h
  | cmdStep => exact .output _ rfl (execCmdStep_effect h)
  | drainStep => exact .output _ rfl (execDrainStep_effect hs h)
  | directStep => exact .output _ rfl (execDirectStep_effect hs h)
  | wireNewframe => exact exec_combinational_effect (.inr rfl) h
  | wireDebug n => exact exec_combinational_effect (.inr rfl) h

end

/-! ### The invariant after each effect -/

section
variable {s t : State}

theorem BlockInv.after_raiseFault (hs : BlockInv s) (c : Cause) : BlockInv (raiseFault c s) :=
  { hs with fault_code := c.code_toNat_le }

theorem BlockInv.after_consumeDraw (hs : BlockInv s) : BlockInv (consumeDraw s) := { hs with }

theorem BlockInv.after_emit (hs : BlockInv s) (v : Byte) : BlockInv (emit v s) := { hs with }

theorem BlockInv.after_yieldResult (hs : BlockInv s) (r : List Byte) : BlockInv (yieldResult r s) := { hs with }

theorem BlockInv.after_startCommand_newFrame (hs : BlockInv s) (hidle : s.state = .idle) :
    BlockInv (startCommand .newFrame 4#8 s) :=
  { hs with
    drain_full := nofun
    outside_sent := fun _ => hs.outside_sent (.inl hidle)
    cmd_len := fun _ => ⟨rfl, by simp⟩
    cmd_idx := fun _ => Nat.zero_le _
    cmd_text := nofun
    cmd_chk := fun _ => rfl }

/-- The length byte of a debug command counts the type byte and the text (R33, R74). -/
theorem debugLength_toNat {n : Byte} (hn : n.toNat ≤ 254) : (n + 1#8).toNat = n.toNat + 1 := by
  bv_omega

/-- The payload of an accepted DEBUG: its text is wholly written (R100). -/
theorem commandPayload_startCommand_debug {n : Byte} (hn : n.toNat ≤ 254) :
    commandPayload (startCommand .debug (n + 1#8) s) = debugPayload ((textBytes s.txt n.toNat).getD []) := by
  simp [commandPayload, debugLength_toNat hn]

theorem BlockInv.after_startCommand_debug (hs : BlockInv s) {n : Byte} (hidle : s.state = .idle) (hn : n.toNat ≤ 254)
    (hmarked : allMarked s n.toNat = true) : BlockInv (startCommand .debug (n + 1#8) s) := by
  have hlen := debugLength_toNat hn
  obtain ⟨x, hx⟩ := Option.isSome_iff_exists.1 (hs.textBytes_of_allMarked hn hmarked)
  exact { hs with
    drain_full := nofun
    outside_sent := fun _ => hs.outside_sent (.inl hidle)
    cmd_len := fun _ => by
      rw [commandPayload_startCommand_debug hn, startCommand_clen, hlen, hx]
      simp [debugPayload, (textBytes_spec hx).1]
    cmd_idx := fun _ => Nat.zero_le _
    cmd_text := fun _ _ => by simp [hlen, hx]
    cmd_chk := fun _ => rfl }

theorem BlockInv.after_openLine (hs : BlockInv s) : BlockInv (openLine s) :=
  { hs with
    cursor_le_wr := Nat.le_refl _
    wr_le_line := Nat.zero_le _
    formatted_pending := nofun
    drain_full := nofun
    pairing := rfl
    direct_one := fun _ => Nat.zero_le _
    outside_sent := fun _ => rfl
    line_written := nofun
    formatted_encoded := nofun
    cmd_len := nofun
    cmd_idx := nofun
    cmd_text := nofun
    cmd_chk := nofun }

/-- No command is being emitted, so the text of none changes (R106). -/
theorem BlockInv.after_writeText (hs : BlockInv s) {a : Nat} (b : Byte) (hcmd : s.state ≠ .cmd) (ha : a < 254) :
    BlockInv (writeText a b s) :=
  { hs with
    marks := fun i hi => by
      have hread := readText_writeText s a i b
      rw [readText, readText] at hread
      rw [textMarked_writeText s b ha, hread, hs.marks i hi]
      by_cases heq : i = a <;> simp [heq]
    txt_wf := Memory.write_wf hs.txt_wf a b
    txt_inside := Memory.write_inside hs.txt_inside ha b
    cmd_len := fun h => absurd h hcmd
    cmd_idx := fun h => absurd h hcmd
    cmd_text := fun h => absurd h hcmd
    cmd_chk := fun h => absurd h hcmd }

theorem BlockInv.after_pushByte (hs : BlockInv s) (b : Byte) (hline : s.state = .line)
    (hroom : s.wr < lineBytes s.cfg) (hfree : ¬ (s.cfg.mode = .direct ∧ s.cursor < s.wr)) :
    BlockInv (pushByte b s) := by
  have hwr : (pushByte b s).wr.toNat = s.wr.toNat + 1 := LineIndex.toNat_succ hroom
  have hle := hs.cursor_le_wr
  have hstate : (pushByte b s).state = .line := hline
  exact { hs with
    cursor_le_wr := by rw [hwr, pushByte_cursor]; omega
    wr_le_line := by rw [hwr]; exact hroom
    formatted_pending := fun h => by
      obtain ⟨hmode, hlt⟩ := hs.formatted_pending h
      exact ⟨hmode, by rw [hwr, pushByte_cursor]; omega⟩
    drain_full := fun h => by simp [hstate] at h
    direct_one := fun hmode => by
      have hsent : ¬ s.cursor.toNat < s.wr.toNat := fun hlt => hfree ⟨hmode, hlt⟩
      rw [hwr, pushByte_cursor]
      omega
    outside_sent := fun h => by simp [hstate] at h
    line_written := fun i hi => by
      rw [hwr] at hi
      rw [read_pushByte]
      split
      · rfl
      · exact hs.line_written i (by omega)
    formatted_encoded := fun h v hv => by
      have hlt := (hs.formatted_pending h).2
      rw [pushByte_cursor, read_pushByte, if_neg (Nat.ne_of_lt hlt)] at hv
      exact hs.formatted_encoded h v hv
    lb_wf := Memory.write_wf hs.lb_wf _ b
    lb_inside := Memory.write_inside hs.lb_inside hroom b
    cmd_len := fun h => by simp [hstate] at h
    cmd_idx := fun h => by simp [hstate] at h
    cmd_text := fun h => by simp [hstate] at h
    cmd_chk := fun h => by simp [hstate] at h }

/-- R115: the line is full; it is over where everything is sent, else the rest of it drains. -/
theorem BlockInv.after_lineend (hs : BlockInv s) (hfull : s.wr = lineBytes s.cfg) :
    BlockInv (setCtl (if s.cursor = s.wr then .idle else .drain) s) := by
  have hle := hs.cursor_le_wr
  have hcmd : (if s.cursor = s.wr then CtlState.idle else .drain) ≠ .cmd := by split <;> nofun
  exact { hs with
    drain_full := fun h => by
      rw [setCtl_state] at h
      split at h
      next => cases h
      next hne =>
        have hne : s.cursor.toNat ≠ s.wr.toNat := fun heq => hne (BitVec.eq_of_toNat_eq heq)
        exact ⟨hfull, Nat.lt_of_le_of_ne hle hne⟩
    outside_sent := fun h => by
      rw [setCtl_state] at h
      split at h
      next heq => exact heq
      next => simp at h
    cmd_len := fun h => absurd h hcmd
    cmd_idx := fun h => absurd h hcmd
    cmd_text := fun h => absurd h hcmd
    cmd_chk := fun h => absurd h hcmd }

theorem BlockInv.unsent_in_line (hs : BlockInv s) (hlt : s.cursor < s.wr) : s.cursor < lineBytes s.cfg :=
  Nat.lt_of_lt_of_le hlt hs.wr_le_line

theorem BlockInv.after_encodeInPlace (hs : BlockInv s) (v : Byte) (hlt : s.cursor < s.wr) (hraw : s.formatted = false) :
    BlockInv (encodeInPlace v s) :=
  { hs with
    line_written := fun i hi => by
      rw [read_encodeInPlace]
      split
      · rfl
      · exact hs.line_written i hi
    formatted_encoded := fun h => by simp [encodeInPlace, hraw] at h
    lb_wf := Memory.write_wf hs.lb_wf _ _
    lb_inside := Memory.write_inside hs.lb_inside (hs.unsent_in_line hlt) _ }

/-- After FORMAT the byte at `cursor` is an encoded one, which the encoder leaves as it is (R91, R132(e)). -/
theorem BlockInv.after_setFormatted_encodeInPlace (hs : BlockInv s) (v : Byte) (hlt : s.cursor < s.wr)
    (hmode : s.cfg.mode = .buffered) (hraw : s.formatted = false) :
    BlockInv (setFormatted (encodeInPlace v s)) :=
  { hs.after_encodeInPlace v hlt hraw with
    formatted_pending := fun _ => ⟨hmode, hlt⟩
    formatted_encoded := fun _ w hw => by
      obtain rfl : appliedEncoder s v = w := by
        simpa [read_encodeInPlace]  using hw
      exact appliedEncoder_idem s v }

/-- R31: `highByteNext` follows the parity of `cursor`. -/
theorem parity_succ (n : Nat) : (!(n % 2 == 0)) = ((n + 1) % 2 == 0) := by
  rcases Nat.mod_two_eq_zero_or_one n with h | h <;> simp [Nat.add_mod, h]

theorem BlockInv.after_sendByte (hs : BlockInv s) {v : Byte} (hv : Pending s v) (w : Byte) :
    BlockInv (sendByte w s) := by
  obtain ⟨hline, hunsent, -⟩ := hv
  have hcursor : (sendByte w s).cursor.toNat = s.cursor.toNat + 1 := LineIndex.toNat_succ hunsent
  have hlt : s.cursor.toNat < s.wr.toNat := hunsent
  have hcmd : (sendByte w s).state ≠ .cmd := by
    rw [sendByte_state]
    split
    · nofun
    · rcases hline with h | h <;> simp [h]
  exact { hs with
    cursor_le_wr := by rw [hcursor, sendByte_wr]; omega
    formatted_pending := nofun
    drain_full := fun h => by
      rw [sendByte_state] at h
      split at h
      next => cases h
      next hlast =>
        have hmore : s.cursor.toNat + 1 ≠ s.wr.toNat := fun heq => hlast ⟨h, heq⟩
        exact ⟨(hs.drain_full h).1, by rw [hcursor, sendByte_wr]; omega⟩
    pairing := by
      rw [hcursor, ← parity_succ, ← hs.pairing]
      rfl
    direct_one := fun hmode => by
      have hone := hs.direct_one hmode
      rw [hcursor, sendByte_wr]
      omega
    outside_sent := fun h => by
      have hidle := h.resolve_right hcmd
      rw [sendByte_state] at hidle
      split at hidle
      next hlast => exact BitVec.eq_of_toNat_eq (hcursor.trans hlast.2)
      next => rcases hline with h' | h' <;> simp [h'] at hidle
    formatted_encoded := nofun
    cmd_len := fun h => absurd h hcmd
    cmd_idx := fun h => absurd h hcmd
    cmd_text := fun h => absurd h hcmd
    cmd_chk := fun h => absurd h hcmd }

/-- R102: the checksum byte ends the command. -/
theorem advanceFrame_of_last {v : Byte} (hlast : s.cidx.toNat = s.clen.toNat + 2) :
    advanceFrame v s = { s with cidx := 0#9, state := .idle } := by
  simp [advanceFrame_eq, hlast]

/-- R102: every other byte moves `cidx` on, the payload's fold into the checksum. -/
theorem advanceFrame_of_lt {v : Byte} (hlt : s.cidx.toNat < s.clen.toNat + 2) :
    advanceFrame v s =
      { s with cidx := s.cidx + 1#9, chk := if 2 ≤ s.cidx.toNat then s.chk ^^^ v else s.chk } := by
  have hle : s.cidx.toNat ≤ s.clen.toNat + 1 := by omega
  simp [advanceFrame_eq, Nat.ne_of_lt hlt, hle]

/-- R102: a frame has at most 258 bytes, so `cidx` does not wrap. -/
theorem cidx_toNat_succ (hlt : s.cidx.toNat < s.clen.toNat + 2) : (s.cidx + 1#9).toNat = s.cidx.toNat + 1 := by
  have := s.clen.isLt
  bv_omega

theorem BlockInv.after_advanceFrame (hs : BlockInv s) {v : Byte} (hcmd : s.state = .cmd)
    (hv : (frameOf (commandPayload s))[s.cidx.toNat]? = some v) : BlockInv (advanceFrame v s) := by
  have hidx := hs.cmd_idx hcmd
  obtain ⟨hlen, hpos⟩ := hs.cmd_len hcmd
  rcases Nat.lt_or_eq_of_le hidx with hlt | hlast
  · rw [advanceFrame_of_lt hlt]
    have hsucc := cidx_toNat_succ hlt
    exact { hs with
      cmd_idx := fun _ => (Nat.le_of_eq hsucc).trans hlt
      cmd_chk := fun _ => by
        show (if 2 ≤ s.cidx.toNat then s.chk ^^^ v else s.chk) =
          xorAll ((commandPayload s).take ((s.cidx + 1#9).toNat - 2))
        rw [hsucc, hs.cmd_chk hcmd]
        split
        next hpayload =>
          obtain ⟨j, hj⟩ : ∃ j, s.cidx.toNat = j + 2 := ⟨s.cidx.toNat - 2, by omega⟩
          have hjlen : j < (commandPayload s).length := by omega
          rw [hj, frameOf_getElem?_payload hjlen, Option.some.injEq] at hv
          rw [hj, show j + 2 + 1 - 2 = j + 1 by omega, show j + 2 - 2 = j by omega,
            List.take_succ_eq_append_getElem hjlen, xorAll_concat, hv]
        next hheader => rw [show s.cidx.toNat + 1 - 2 = 0 by omega, show s.cidx.toNat - 2 = 0 by omega] }
  · rw [advanceFrame_of_last hlast]
    exact { hs with
      drain_full := nofun
      outside_sent := fun _ => hs.outside_sent (.inr hcmd)
      cmd_len := nofun
      cmd_idx := nofun
      cmd_text := nofun
      cmd_chk := nofun }

/-- The byte CMD_STEP sends is the byte of the frame at `cidx`. -/
theorem BlockInv.frame_getElem? (hs : BlockInv s) {v : Byte} (hcmd : s.state = .cmd) (hv : frameByte s = .ok v) :
    (frameOf (commandPayload s))[s.cidx.toNat]? = some v := by
  obtain ⟨w, hw, hframe⟩ := hs.frameByte_eq hcmd
  obtain rfl : w = v := Except.ok.inj (hw.symm.trans hv)
  exact hframe

theorem OutputEffect.blockInv (hout : OutputEffect s t) (hs : BlockInv s) : BlockInv t := by
  cases hout with
  | yielded r => exact hs.after_yieldResult r
  | stayed => exact hs
  | retried _ => exact hs.after_consumeDraw
  | formatted v hv hmode hraw => exact hs.after_setFormatted_encodeInPlace v hv.unsent hmode hraw
  | sent v hv _ _ => exact hs.after_sendByte hv v
  | sentDirect v hv _ hraw => exact (hs.after_encodeInPlace v hv.unsent hraw).after_sendByte hv.after_encodeInPlace _
  | framed v hcmd _ hv =>
    exact (hs.after_consumeDraw.after_emit v).after_advanceFrame hcmd (hs.frame_getElem? hcmd hv)

theorem Effect.blockInv {i : Instr} (heffect : Effect s i t) (hs : BlockInv s) : BlockInv t := by
  cases heffect with
  | ignored _ _ => exact hs
  | raised _ c _ => exact hs.after_raiseFault c
  | nop => exact hs
  | newframe hidle => exact hs.after_startCommand_newFrame hidle
  | textwr a b hcmd ha => exact hs.after_writeText b hcmd ha
  | debugEmpty => exact hs
  | debug n hidle _ hn hmarked => exact hs.after_startCommand_debug hidle hn hmarked
  | linestart _ => exact hs.after_openLine
  | capture b hline hroom hfree => exact hs.after_pushByte b hline hroom hfree
  | lineend _ hfull => exact hs.after_lineend hfull
  | output _ _ hout => exact hout.blockInv hs

/-- Every operation keeps the block's invariant (R132). -/
theorem BlockInv.after_exec {i : Instr} (hs : BlockInv s) (h : exec i s = .next t) : BlockInv t :=
  (exec_effect hs h).blockInv hs

end
end Sys2Proof.Machine

/-! PROOFS. The wire is paid what it is owed (spec/20_memory.md R59, spec/42_scheduler.md R131): every operation moves
bytes from what is owed to the wire, and only an accepted command or capture adds to the two. -/
namespace Sys2Proof.Machine

/-! ### The unsent bytes of a line -/

/-- The encoded values of the captured bytes that are not sent yet: `e(cursor), ..., e(wr-1)` (R131). -/
def unsentBytes (s : State) : List Byte :=
  (List.range' s.cursor.toNat (s.wr.toNat - s.cursor.toNat)).map fun i =>
    encodedAt s.cfg i ((s.lb.read i).getD 0#8)

section
variable {s t : State} {i : Instr}

theorem unsentBytes_of_sent (h : s.cursor = s.wr) : unsentBytes s = [] := by
  simp [unsentBytes, h]

theorem owed_of_idle (h : s.state = .idle) : owed s = [] := by
  simp [owed, h]

theorem owed_of_cmd (h : s.state = .cmd) : owed s = (frameOf (commandPayload s)).drop s.cidx.toNat := by
  simp [owed, h]

/-- An accepted command is owed its whole frame (R73). -/
theorem owed_startCommand (kind : CmdKind) (len : Byte) :
    owed (startCommand kind len s) = frameOf (commandPayload (startCommand kind len s)) :=
  owed_of_cmd rfl

/-- Outside a command the wire is owed the unsent bytes: in IDLE there are none (R125). -/
theorem BlockInv.owed_of_ne_cmd (hs : BlockInv s) (h : s.state ≠ .cmd) : owed s = unsentBytes s := by
  cases hstate : s.state with
  | idle => rw [owed_of_idle hstate, unsentBytes_of_sent (hs.outside_sent (.inl hstate))]
  | cmd => exact absurd hstate h
  | line => simp [owed, hstate, unsentBytes]
  | drain => simp [owed, hstate, unsentBytes]

/-- The encoder applied at `cursor` is `e(cursor)`: `highByteNext` has the parity of `cursor` (R31, R131). -/
theorem BlockInv.encodedAt_cursor (hs : BlockInv s) (b : Byte) :
    encodedAt s.cfg s.cursor.toNat b = appliedEncoder s b := by
  rw [encodedAt, appliedEncoder, hs.pairing]

/-- A captured byte is owed last (R113, R131). -/
theorem BlockInv.unsentBytes_pushByte (hs : BlockInv s) (b : Byte) (hroom : s.wr < lineBytes s.cfg) :
    unsentBytes (pushByte b s) = unsentBytes s ++ [encodedAt s.cfg s.wr.toNat b] := by
  have hwr : (pushByte b s).wr.toNat = s.wr.toNat + 1 := LineIndex.toNat_succ hroom
  have hle := hs.cursor_le_wr
  rw [unsentBytes, hwr, pushByte_cursor, Nat.succ_sub hle, Nat.succ_eq_add_one, List.range'_1_concat,
    Nat.add_sub_cancel' hle, List.map_append, List.map_singleton, read_pushByte, if_pos rfl]
  congr 1
  refine List.map_congr_left fun i hi => ?_
  have hi : i < s.wr.toNat := by
    rw [List.mem_range'_1] at hi
    omega
  rw [read_pushByte, if_neg (Nat.ne_of_lt hi)]
  rfl

/-- FORMAT leaves what the line is owed: encoding twice is encoding once (R91). -/
theorem BlockInv.unsentBytes_encodeInPlace (hs : BlockInv s) {v : Byte}
    (hv : s.lb.read s.cursor.toNat = some v) : unsentBytes (encodeInPlace v s) = unsentBytes s := by
  refine List.map_congr_left fun i _ => ?_
  rw [read_encodeInPlace]
  split
  next heq =>
    rw [heq, hv]
    exact (hs.encodedAt_cursor _).trans ((appliedEncoder_idem s v).trans (hs.encodedAt_cursor v).symm)
  next => rfl

/-- SEND takes the first unsent byte (R117). -/
theorem BlockInv.unsentBytes_sendByte (hs : BlockInv s) {v : Byte} (hv : Pending s v)
    (henc : appliedEncoder s v = v) : v :: unsentBytes (sendByte v s) = unsentBytes s := by
  have hcursor : (sendByte v s).cursor.toNat = s.cursor.toNat + 1 := LineIndex.toNat_succ hv.unsent
  have hlt : s.cursor.toNat < s.wr.toNat := hv.unsent
  rw [unsentBytes, unsentBytes, hcursor, sendByte_wr,
    show s.wr.toNat - s.cursor.toNat = s.wr.toNat - (s.cursor.toNat + 1) + 1 by omega, List.range'_succ,
    List.map_cons, hv.read, Option.getD_some, hs.encodedAt_cursor, henc]
  rfl

/-! ### What each effect adds -/

/-- An encoded byte at `cursor` moves from what is owed to the wire. -/
theorem BlockInv.wire_owed_sendByte (hs : BlockInv s) {v : Byte} (hv : Pending s v)
    (henc : appliedEncoder s v = v) : (sendByte v s).wire ++ owed (sendByte v s) = s.wire ++ owed s := by
  have hcmd : s.state ≠ .cmd := hv.ne_cmd
  have hcmd' : (sendByte v s).state ≠ .cmd := by
    rw [sendByte_state]
    split
    · nofun
    · exact hcmd
  rw [(hs.after_sendByte hv v).owed_of_ne_cmd hcmd', hs.owed_of_ne_cmd hcmd, ← hs.unsentBytes_sendByte hv henc,
    sendByte_wire, List.append_assoc, List.singleton_append]

/-- CMD_STEP moves the next byte of the frame to the wire (R102). -/
theorem BlockInv.owed_advanceFrame (hs : BlockInv s) {v : Byte} (hcmd : s.state = .cmd)
    (hv : (frameOf (commandPayload s))[s.cidx.toNat]? = some v) :
    v :: owed (advanceFrame v s) = owed s := by
  obtain ⟨hlen, -⟩ := hs.cmd_len hcmd
  obtain ⟨hlt, rfl⟩ := List.getElem?_eq_some_iff.1 hv
  rw [owed_of_cmd hcmd, List.drop_eq_getElem_cons hlt]
  congr 1
  rcases Nat.lt_or_eq_of_le (hs.cmd_idx hcmd) with hmore | hlast
  · rw [advanceFrame_of_lt hmore, ← cidx_toNat_succ hmore]
    exact owed_of_cmd hcmd
  · rw [advanceFrame_of_last hlast, owed_of_idle rfl, List.drop_eq_nil_of_le]
    rw [frameOf_length, hlast, hlen]

theorem advanceFrame_wire (v : Byte) (s : State) : (advanceFrame v s).wire = s.wire := by rw [advanceFrame_eq]
theorem advanceFrame_cfg (v : Byte) (s : State) : (advanceFrame v s).cfg = s.cfg := by rw [advanceFrame_eq]
theorem advanceFrame_txt (v : Byte) (s : State) : (advanceFrame v s).txt = s.txt := by rw [advanceFrame_eq]
theorem advanceFrame_wr (v : Byte) (s : State) : (advanceFrame v s).wr = s.wr := by rw [advanceFrame_eq]

theorem Cause.code_ne_zero (c : Cause) : c.code ≠ 0#4 := by
  cases c <;> decide

theorem contribution_of_not_input (hi : isInput i = false) : contribution i s = [] := by
  cases i with
  | newframe | debug | capture => cases hi
  | _ => rfl

/-- Slots and internal steps only turn owed bytes into emitted ones, in order. -/
theorem OutputEffect.wire_owed (hout : OutputEffect s t) (hs : BlockInv s) :
    t.wire ++ owed t = s.wire ++ owed s := by
  cases hout with
  | yielded r => rfl
  | stayed => rfl
  | retried _ => rfl
  | formatted v hv hmode hraw =>
    have hcmd : s.state ≠ .cmd := hv.ne_cmd
    rw [hs.owed_of_ne_cmd hcmd, (hs.after_setFormatted_encodeInPlace v hv.unsent hmode hraw).owed_of_ne_cmd hcmd]
    exact congrArg _ (hs.unsentBytes_encodeInPlace hv.read)
  | sent v hv _ henc => exact hs.wire_owed_sendByte hv henc
  | sentDirect v hv _ hraw =>
    have hstored := hs.after_encodeInPlace v hv.unsent hraw
    have hcmd : s.state ≠ .cmd := hv.ne_cmd
    rw [hstored.wire_owed_sendByte hv.after_encodeInPlace (appliedEncoder_idem s v), hstored.owed_of_ne_cmd hcmd,
      hs.owed_of_ne_cmd hcmd, hs.unsentBytes_encodeInPlace hv.read]
    rfl
  | framed v hcmd _ hv =>
    have howed : v :: owed (advanceFrame v (emit v (consumeDraw s))) = owed s :=
      (hs.after_consumeDraw.after_emit v).owed_advanceFrame hcmd (hs.frame_getElem? hcmd hv)
    rw [← howed, advanceFrame_wire, emit_wire, consumeDraw_wire, List.append_assoc, List.singleton_append]

theorem Effect.wire_owed (heffect : Effect s i t) (hs : BlockInv s) (hf : t.fault = 0#4) :
    t.wire ++ owed t = s.wire ++ owed s ++ contribution i s := by
  cases heffect with
  | ignored _ hfault => exact absurd hf hfault
  | raised _ c _ => exact absurd hf c.code_ne_zero
  | nop => exact (List.append_nil _).symm
  | newframe hidle =>
    rw [owed_of_idle hidle, owed_startCommand, List.append_nil]
    rfl
  | textwr a b hcmd ha =>
    rw [(hs.after_writeText b hcmd ha).owed_of_ne_cmd hcmd, hs.owed_of_ne_cmd hcmd]
    exact (List.append_nil _).symm
  | debugEmpty => exact (List.append_nil _).symm
  | debug n hidle hpos hn hmarked =>
    rw [owed_of_idle hidle, owed_startCommand, commandPayload_startCommand_debug hn, List.append_nil, contribution,
      debugFrame, if_neg hpos]
    rfl
  | linestart hidle =>
    rw [hs.after_openLine.owed_of_ne_cmd nofun, unsentBytes_of_sent rfl, owed_of_idle hidle]
    exact (List.append_nil _).symm
  | capture b hline hroom hfree =>
    have hcmd : s.state ≠ .cmd := by simp [hline]
    rw [(hs.after_pushByte b hline hroom hfree).owed_of_ne_cmd hcmd, hs.owed_of_ne_cmd hcmd,
      hs.unsentBytes_pushByte b hroom, List.append_assoc]
    rfl
  | lineend hline hfull =>
    have hcmd : (setCtl (if s.cursor = s.wr then .idle else .drain) s).state ≠ .cmd := by
      rw [setCtl_state]
      split <;> nofun
    rw [(hs.after_lineend hfull).owed_of_ne_cmd hcmd, hs.owed_of_ne_cmd (by simp [hline])]
    exact (List.append_nil _).symm
  | output _ hi hout => rw [contribution_of_not_input hi, List.append_nil, hout.wire_owed hs]

end

/-- Settles O49: by the effects an operation can have. -/
theorem wireIsPaidWhatItIsOwed : Obligations.WireIsPaidWhatItIsOwed :=
  fun _ _ _ hs h hf => (exec_effect hs h).wire_owed hs hf

/-! ### A run of operations -/

section
variable {s t : State} {i : Instr} {is : List Instr}

/-- No operation clears `fault` (R24). -/
theorem exec_fault_zero (h : exec i s = .next t) (hf : t.fault = 0#4) : s.fault = 0#4 := by
  rcases exec_keepsOrRaises h with hkeep | ⟨hzero, -⟩
  · exact hkeep ▸ hf
  · exact hzero

theorem runOps_cons_next : runOps (i :: is) s = .next t ↔ ∃ u, exec i s = .next u ∧ runOps is u = .next t :=
  andThen_next

theorem runOps_fault_zero (h : runOps is s = .next t) (hf : t.fault = 0#4) : s.fault = 0#4 := by
  induction is generalizing s with
  | nil => exact next_iff.1 h ▸ hf
  | cons i is ih =>
    obtain ⟨u, hexec, hrun⟩ := runOps_cons_next.1 h
    exact exec_fault_zero hexec (ih hrun)

theorem expectedWire_of_not_input (hi : isInput i = false) {c : Cfg} {m : Memory} {k : Nat} :
    expectedWire c m k (i :: is) = expectedWire c m k is := by
  cases i with
  | nop | newframe | textwr | debug | linestart | lineend | capture => cases hi
  | _ => rfl

theorem line_of_sendByte_line {v : Byte} (h : (sendByte v s).state = .line) : s.state = .line := by
  rw [sendByte_state] at h
  split at h
  · cases h
  · exact h

/-- Slots and internal steps leave what a run's inputs are read against: the configuration, the text buffer and the
number of captured bytes; they open no line. -/
theorem OutputEffect.frame (hout : OutputEffect s t) :
    t.cfg = s.cfg ∧ t.txt = s.txt ∧ t.wr = s.wr ∧ (t.state = .line → s.state = .line) := by
  cases hout with
  | yielded r => exact ⟨rfl, rfl, rfl, id⟩
  | stayed => exact ⟨rfl, rfl, rfl, id⟩
  | retried _ => exact ⟨rfl, rfl, rfl, id⟩
  | formatted v _ _ _ => exact ⟨rfl, rfl, rfl, id⟩
  | sent v _ _ _ => exact ⟨rfl, rfl, rfl, line_of_sendByte_line⟩
  | sentDirect v _ _ _ => exact ⟨rfl, rfl, rfl, line_of_sendByte_line (s := encodeInPlace v s)⟩
  | framed v _ _ _ =>
    refine ⟨advanceFrame_cfg v _, advanceFrame_txt v _, advanceFrame_wr v _, fun hline => ?_⟩
    rcases advanceFrame_state v (emit v (consumeDraw s)) with hkeep | hidle
    · exact hkeep.symm.trans hline
    · simp [hidle] at hline

/-- `k` counts the bytes captured in the current line, where there is one. -/
def CountsLine (k : Nat) (s : State) : Prop := s.state = .line → k = s.wr.toNat

/-- What a run calls for is the contribution of its first operation and what the rest of it calls for, from the
configuration, the text buffer and the line that operation leaves. -/
theorem Effect.expectedWire_cons (heffect : Effect s i t) (hf : t.fault = 0#4) {k : Nat} (hk : CountsLine k s)
    (is : List Instr) : ∃ k', CountsLine k' t ∧
      expectedWire s.cfg s.txt k (i :: is) = contribution i s ++ expectedWire t.cfg t.txt k' is := by
  cases heffect with
  | ignored _ hfault => exact absurd hf hfault
  | raised _ c _ => exact absurd hf c.code_ne_zero
  | nop => exact ⟨k, hk, rfl⟩
  | newframe _ => exact ⟨k, nofun, rfl⟩
  | textwr a b _ _ => exact ⟨k, hk, rfl⟩
  | debugEmpty => exact ⟨k, hk, rfl⟩
  | debug n _ _ _ _ => exact ⟨k, nofun, rfl⟩
  | linestart _ => exact ⟨0, fun _ => rfl, rfl⟩
  | capture b hline hroom _ =>
    refine ⟨k + 1, fun _ => ?_, ?_⟩
    · rw [hk hline]
      exact (LineIndex.toNat_succ hroom).symm
    · rw [expectedWire, hk hline]
      rfl
  | lineend _ _ =>
    refine ⟨k, fun h => ?_, rfl⟩
    rw [setCtl_state] at h
    split at h <;> cases h
  | output _ hi hout =>
    obtain ⟨hcfg, htxt, hwr, hstate⟩ := hout.frame
    refine ⟨k, fun hline => ?_, ?_⟩
    · rw [hwr]
      exact hk (hstate hline)
    · rw [expectedWire_of_not_input hi, contribution_of_not_input hi, hcfg, htxt]
      rfl

/-- The closure of `Effect.wire_owed` over a run. -/
theorem BlockInv.runOps_wire_owed (hs : BlockInv s) (h : runOps is s = .next t) (hf : t.fault = 0#4) {k : Nat}
    (hk : CountsLine k s) : t.wire ++ owed t = s.wire ++ owed s ++ expectedWire s.cfg s.txt k is := by
  induction is generalizing s k with
  | nil => rw [next_iff.1 h, expectedWire, List.append_nil]
  | cons i is ih =>
    obtain ⟨u, hexec, hrun⟩ := runOps_cons_next.1 h
    have heffect := exec_effect hs hexec
    have hfu := runOps_fault_zero hrun hf
    obtain ⟨k', hk', hcons⟩ := heffect.expectedWire_cons hfu hk is
    rw [ih (heffect.blockInv hs) hrun hk', heffect.wire_owed hs hfu, hcons, List.append_assoc _ (contribution i s)]

end

/-- Settles O50: by induction on the run; in IDLE nothing is owed. -/
theorem runOutputIsWhatTheInputsCallFor : Obligations.RunOutputIsWhatTheInputsCallFor := by
  intro is s t hs hidle h hidle' hf
  have hrun := hs.runOps_wire_owed h hf (k := 0) fun hline => by simp [hidle] at hline
  simpa [owed_of_idle hidle, owed_of_idle hidle'] using hrun

end Sys2Proof.Machine

/-! PROOFS. The model's stops are out of reach (spec/20_memory.md R49, spec/70_reset_and_hazards.md R165): where the
invariant holds, every read finds a written byte and every store is inside its memory. -/
namespace Sys2Proof.Machine

section
variable {s : State}

theorem whenLive_answers {k : Result} (h : ∃ t, k = .next t) : ∃ t, whenLive s k = .next t := by
  obtain ⟨t, rfl⟩ := h
  unfold whenLive
  split
  · exact ⟨t, rfl⟩
  · exact ⟨s, rfl⟩

theorem attempt_answers {hit : State → Result} (h : ∃ t, hit (consumeDraw s) = .next t) :
    ∃ t, attempt s hit = .next t := by
  unfold attempt
  split
  · exact h
  · exact ⟨_, rfl⟩

/-- Every unsent byte of a line has been captured (R47, R49). -/
theorem BlockInv.readLine_cursor (hs : BlockInv s) (hlt : s.cursor < s.wr) :
    ∃ v, readLine s s.cursor = some v := by
  obtain ⟨v, hv⟩ := Option.isSome_iff_exists.1 (hs.line_written _ hlt)
  exact ⟨v, readLine_some.2 ⟨hlt, hv⟩⟩

theorem BlockInv.cursor_lt_of_ne (hs : BlockInv s) (hne : s.cursor ≠ s.wr) : s.cursor < s.wr :=
  Nat.lt_of_le_of_ne hs.cursor_le_wr fun heq => hne (BitVec.eq_of_toNat_eq heq)

theorem BlockInv.formatStep_answers (hs : BlockInv s) (hlt : s.cursor < s.wr) :
    ∃ t, formatStep s = .next t := by
  obtain ⟨v, hv⟩ := hs.readLine_cursor hlt
  exact ⟨_, formatStep_next.2 ⟨v, hlt, (readLine_some.1 hv).2, hs.unsent_in_line hlt, rfl⟩⟩

theorem BlockInv.sendStep_answers (hs : BlockInv s) (hlt : s.cursor < s.wr) : ∃ t, sendStep s = .next t := by
  obtain ⟨v, hv⟩ := hs.readLine_cursor hlt
  exact ⟨_, sendStep_next.2 ⟨v, hlt, (readLine_some.1 hv).2, rfl⟩⟩

theorem execNewframe_answers : ∃ t, execNewframe s = .next t := by
  refine whenLive_answers ?_
  split <;> exact ⟨_, rfl⟩

theorem execTextwr_answers (a b : Byte) : ∃ t, execTextwr a b s = .next t := by
  refine whenLive_answers ?_
  repeat' split
  all_goals exact ⟨_, rfl⟩

theorem execDebug_answers (n : Byte) : ∃ t, execDebug n s = .next t := by
  refine whenLive_answers ?_
  repeat' split
  all_goals exact ⟨_, rfl⟩

theorem execLinestart_answers : ∃ t, execLinestart s = .next t := by
  refine whenLive_answers ?_
  split <;> exact ⟨_, rfl⟩

theorem execLineend_answers : ∃ t, execLineend s = .next t := by
  refine whenLive_answers ?_
  repeat' split
  all_goals exact ⟨_, rfl⟩

/-- An accepted capture stores inside the line buffer (R45, R48). -/
theorem BlockInv.execCapture_answers (hs : BlockInv s) (b : Byte) : ∃ t, execCapture b s = .next t := by
  refine whenLive_answers ?_
  split
  · exact ⟨_, rfl⟩
  · split
    · exact ⟨_, rfl⟩
    next hroom =>
    split
    · exact ⟨_, rfl⟩
    · have hlt : s.wr < lineBytes s.cfg :=
        Nat.lt_of_le_of_ne hs.wr_le_line fun heq => hroom (BitVec.eq_of_toNat_eq heq)
      exact ⟨_, andThen_next.2 ⟨_, writeLine_next.2 ⟨hlt, rfl⟩, rfl⟩⟩

theorem BlockInv.execSlot_answers (hs : BlockInv s) : ∃ t, execSlot s = .next t := by
  refine whenLive_answers ?_
  split
  · exact ⟨_, rfl⟩
  · split
    · exact ⟨_, rfl⟩
    next hne =>
    have hlt := hs.cursor_lt_of_ne hne
    split
    · exact hs.formatStep_answers hlt
    · exact attempt_answers (hs.after_consumeDraw.sendStep_answers hlt)

theorem BlockInv.execCmdStep_answers (hs : BlockInv s) : ∃ t, execCmdStep s = .next t := by
  by_cases henabled : s.fault = 0#4 ∧ s.state = .cmd
  · obtain ⟨v, hv, -⟩ := hs.frameByte_eq henabled.2
    obtain ⟨t, ht⟩ : ∃ t, attempt s (fun t => .next (advanceFrame v (emit v t))) = .next t :=
      attempt_answers ⟨_, rfl⟩
    exact ⟨t, by simpa [execCmdStep, henabled, live, hv] using ht⟩
  · exact ⟨s, execCmdStep_next.2 (.inl ⟨henabled, rfl⟩)⟩

/-- In DRAIN there is an unsent byte (R132(c)). -/
theorem BlockInv.execDrainStep_answers (hs : BlockInv s) : ∃ t, execDrainStep s = .next t := by
  unfold execDrainStep
  split
  next henabled =>
    obtain ⟨⟨-, hdrain⟩, -⟩ := by simpa only [Bool.and_eq_true, decide_eq_true_eq] using henabled
    have hlt : s.cursor < s.wr := (hs.drain_full hdrain).2
    split
    · exact hs.formatStep_answers hlt
    · obtain ⟨u, hu⟩ := hs.after_consumeDraw.sendStep_answers hlt
      exact attempt_answers ⟨_, andThen_next.2 ⟨u, hu, rfl⟩⟩
  next => exact ⟨s, rfl⟩

theorem BlockInv.execDirectStep_answers (hs : BlockInv s) : ∃ t, execDirectStep s = .next t := by
  unfold execDirectStep
  split
  next henabled =>
    obtain ⟨-, hlt⟩ := by simpa only [Bool.and_eq_true, decide_eq_true_eq] using henabled
    obtain ⟨v, hv⟩ := hs.readLine_cursor hlt
    rw [hv]
    exact attempt_answers
      ⟨_, andThen_next.2 ⟨_, directSend_next.2 ⟨hs.unsent_in_line hlt, rfl⟩, rfl⟩⟩
  next => exact ⟨s, rfl⟩

/-- Every operation of the block answers. -/
theorem BlockInv.exec_answers (hs : BlockInv s) {i : Instr} (hi : isOperation i = true) :
    ∃ t, exec i s = .next t := by
  cases i with
  | nop => exact ⟨s, rfl⟩
  | newframe => exact execNewframe_answers
  | textwr a b => exact execTextwr_answers a b
  | debug n => exact execDebug_answers n
  | linestart => exact execLinestart_answers
  | lineend => exact execLineend_answers
  | capture b => exact hs.execCapture_answers b
  | slot => exact hs.execSlot_answers
  | cmdStep => exact hs.execCmdStep_answers
  | drainStep => exact hs.execDrainStep_answers
  | directStep => exact hs.execDirectStep_answers
  | grayscaleFirst | grayscaleSecond | rgbHigh | rgbLow | wireNewframe | wireDebug => cases hi

/-! ### A whole cycle -/

/-- The steps the sequencer takes on its own are operations of the block (R130). -/
theorem isOperation_of_enabledStep {i : Instr} (h : enabledStep s = some i) : isOperation i = true := by
  unfold enabledStep at h
  repeat' split at h
  all_goals cases h
  all_goals rfl

theorem BlockInv.firstOfCycle_answers (hs : BlockInv s) (slot : Bool) : ∃ t, firstOfCycle slot s = .next t := by
  unfold firstOfCycle
  split
  next i hi => exact hs.exec_answers (isOperation_of_enabledStep hi)
  next =>
    split
    · exact hs.exec_answers rfl
    · exact ⟨s, rfl⟩

/-- Every control word is an operation or faults (R67); the byte at the capture port is a capture (R68). -/
theorem BlockInv.runCode_answers (hs : BlockInv s) {c : Code} (hc : c.space = .ctrl24 ∨ c.space = .cap8) :
    ∃ t, runCode c s = .next t := by
  unfold runCode
  split
  next i hi =>
    have hspace := decode_space hi
    exact hs.exec_answers (by rcases hc with hc | hc <;> simp [isOperation, hspace, hc])
  next =>
    cases c with
    | ctrl24 w => exact whenLive_answers ⟨_, rfl⟩
    | cap8 b => contradiction
    | strobe | encsel | internal | wire => simp [Code.space] at hc

theorem BlockInv.secondOfCycle_answers (hs : BlockInv s) (p : PortSample) :
    ∃ t, secondOfCycle p s = .next t := by
  unfold secondOfCycle
  split
  · exact whenLive_answers ⟨_, rfl⟩
  · exact hs.runCode_answers (.inl rfl)
  · exact hs.runCode_answers (.inr rfl)
  · exact ⟨s, rfl⟩

/-- The first event of a cycle is an operation or nothing, so it keeps the invariant. -/
theorem BlockInv.after_firstOfCycle {t : State} {slot : Bool} (hs : BlockInv s)
    (h : firstOfCycle slot s = .next t) : BlockInv t := by
  rcases firstOfCycle_next.1 h with ⟨i, -, hexec⟩ | ⟨-, -, hexec⟩ | ⟨-, -, rfl⟩
  · exact hs.after_exec hexec
  · exact hs.after_exec hexec
  · exact hs

theorem BlockInv.runCycle_answers (hs : BlockInv s) (p : PortSample) : ∃ t, runCycle p s = .next t := by
  obtain ⟨u, hu⟩ := hs.firstOfCycle_answers p.slot
  obtain ⟨v, hv⟩ := (hs.after_firstOfCycle hu).secondOfCycle_answers p
  exact ⟨_, runCycle_next.2 ⟨u, v, hu, hv, rfl⟩⟩

end

/-- Settles O45: each operation by its reads and stores, a cycle by its two events, the first of which keeps the
invariant. -/
theorem operationsNeverStop : Obligations.OperationsNeverStop :=
  fun _ hs => ⟨fun _ => hs.exec_answers, hs.runCycle_answers⟩

end Sys2Proof.Machine

/-! PROOFS. The encodings (spec/30_encoding.md): a control word is its four fields (R64), and decoding and encoding are
inverse to each other in every encoding space. -/
namespace Sys2Proof

/-! ### A control word is its four fields (R64) -/

section
variable (opc rsv : BitVec 4) (a b : Byte)

@[simp] theorem fieldOpc_ctlWord : fieldOpc (ctlWord opc rsv a b) = opc :=
  (BitVec.extractLsb'_append_eq_of_le (by decide)).trans <|
    (BitVec.extractLsb'_append_eq_of_le (by decide)).trans BitVec.extractLsb'_append_eq_left

@[simp] theorem fieldRsv_ctlWord : fieldRsv (ctlWord opc rsv a b) = rsv :=
  (BitVec.extractLsb'_append_eq_of_le (by decide)).trans <|
    (BitVec.extractLsb'_append_eq_of_le (by decide)).trans BitVec.extractLsb'_append_eq_right

@[simp] theorem fieldA_ctlWord : fieldA (ctlWord opc rsv a b) = a :=
  (BitVec.extractLsb'_append_eq_of_le (by decide)).trans BitVec.extractLsb'_append_eq_right

@[simp] theorem fieldB_ctlWord : fieldB (ctlWord opc rsv a b) = b := BitVec.extractLsb'_append_eq_right

theorem ctlWord_fields (w : CtlWord) : ctlWord (fieldOpc w) (fieldRsv w) (fieldA w) (fieldB w) = w := by
  have hbyte : fieldOpc w ++ fieldRsv w = w.extractLsb' 16 8 :=
    BitVec.extractLsb'_append_extractLsb'_eq_extractLsb' rfl
  have hhalf : w.extractLsb' 16 8 ++ fieldA w = w.extractLsb' 8 16 :=
    BitVec.extractLsb'_append_extractLsb'_eq_extractLsb' rfl
  have hword : w.extractLsb' 8 16 ++ fieldB w = w.extractLsb' 0 24 :=
    BitVec.extractLsb'_append_extractLsb'_eq_extractLsb' rfl
  rw [ctlWord, hbyte, hhalf, hword, BitVec.extractLsb'_eq_self]

theorem ctlWord_inj {opc' rsv' : BitVec 4} {a' b' : Byte} :
    ctlWord opc rsv a b = ctlWord opc' rsv' a' b' ↔ opc = opc' ∧ rsv = rsv' ∧ a = a' ∧ b = b' := by
  constructor
  · intro h
    exact ⟨by simpa using congrArg fieldOpc h, by simpa using congrArg fieldRsv h,
      by simpa using congrArg fieldA h, by simpa using congrArg fieldB h⟩
  · rintro ⟨rfl, rfl, rfl, rfl⟩
    rfl

/-! ### The opcode map by fields (R65) -/

theorem ctlWord_and (opc' rsv' : BitVec 4) (a' b' : Byte) :
    ctlWord opc rsv a b &&& ctlWord opc' rsv' a' b' =
      ctlWord (opc &&& opc') (rsv &&& rsv') (a &&& a') (b &&& b') := by
  unfold ctlWord
  rw [← BitVec.and_append, ← BitVec.and_append, ← BitVec.and_append]

theorem ctlWord_and_FFFFFF : ctlWord opc rsv a b &&& 0xFFFFFF#24 = ctlWord opc rsv a b :=
  BitVec.and_allOnes

theorem ctlWord_and_FFFF00 : ctlWord opc rsv a b &&& 0xFFFF00#24 = ctlWord opc rsv a 0#8 := by
  have hmask : 0xFFFF00#24 = ctlWord (.allOnes 4) (.allOnes 4) (.allOnes 8) 0#8 := rfl
  simp only [hmask, ctlWord_and, BitVec.and_allOnes, BitVec.and_zero]

theorem ctlWord_and_FF0000 : ctlWord opc rsv a b &&& 0xFF0000#24 = ctlWord opc rsv 0#8 0#8 := by
  have hmask : 0xFF0000#24 = ctlWord (.allOnes 4) (.allOnes 4) 0#8 0#8 := rfl
  simp only [hmask, ctlWord_and, BitVec.and_allOnes, BitVec.and_zero]

/-- R65, its `mask` and `match` columns read by fields. -/
theorem decodeCtl_ctlWord : decodeCtl (ctlWord opc rsv a b) =
    if opc = 0#4 ∧ rsv = 0#4 ∧ a = 0#8 ∧ b = 0#8 then .ok .nop
    else if opc = 1#4 ∧ rsv = 0#4 ∧ a = 0#8 ∧ b = 0#8 then .ok .newframe
    else if opc = 2#4 ∧ rsv = 0#4 then .ok (.textwr a b)
    else if opc = 3#4 ∧ rsv = 0#4 ∧ a = 0#8 then .ok (.debug b)
    else if opc = 4#4 ∧ rsv = 0#4 ∧ a = 0#8 ∧ b = 0#8 then .ok .linestart
    else if opc = 5#4 ∧ rsv = 0#4 ∧ a = 0#8 ∧ b = 0#8 then .ok .lineend
    else .error (illegalCause (ctlWord opc rsv a b)) := by
  have hnop : 0x000000#24 = ctlWord 0#4 0#4 0#8 0#8 := rfl
  have hnewframe : 0x100000#24 = ctlWord 1#4 0#4 0#8 0#8 := rfl
  have htextwr : 0x200000#24 = ctlWord 2#4 0#4 0#8 0#8 := rfl
  have hdebug : 0x300000#24 = ctlWord 3#4 0#4 0#8 0#8 := rfl
  have hlinestart : 0x400000#24 = ctlWord 4#4 0#4 0#8 0#8 := rfl
  have hlineend : 0x500000#24 = ctlWord 5#4 0#4 0#8 0#8 := rfl
  simp only [decodeCtl, ctlWord_and_FFFFFF, ctlWord_and_FFFF00, ctlWord_and_FF0000, hnop, hnewframe, htextwr,
    hdebug, hlinestart, hlineend, ctlWord_inj, and_true, fieldA_ctlWord, fieldB_ctlWord]

end

/-! ### Decode and encode are inverse to each other -/

theorem decode_encode {i : Instr} (hi : i.wellFormed = true) : decode (encode i) = .ok i := by
  cases i with
  | nop | newframe | linestart | lineend => rfl
  | textwr a b => simp [encode, decode, decodeCtl_ctlWord]
  | debug n => simp [encode, decode, decodeCtl_ctlWord]
  | capture | slot => rfl
  | grayscaleFirst | grayscaleSecond | rgbHigh | rgbLow => rfl
  | cmdStep | drainStep | directStep => rfl
  | wireNewframe => rfl
  | wireDebug n =>
    have hn : n.toNat ≤ Config.maxText := by simpa [Instr.wellFormed] using hi
    simp [encode, decode, decodeWire, hn]

section
variable {i : Instr}

/-- A word the opcode map accepts has every bit the row does not read fixed (R65, R67). -/
theorem encode_of_decodeCtl {w : CtlWord} (h : decodeCtl w = .ok i) : encode i = .ctrl24 w ∧ i.wellFormed = true := by
  rw [← ctlWord_fields w, decodeCtl_ctlWord] at h
  rw [← ctlWord_fields w]
  repeat' split at h
  all_goals cases h
  all_goals simp [encode, Instr.wellFormed, *]

theorem encode_of_decodeEncsel {sel : BitVec 2} {b : Byte} (h : decodeEncsel sel b = .ok i) :
    encode i = .encsel sel b ∧ i.wellFormed = true := by
  have hsel : sel = 0b00#2 ∨ sel = 0b01#2 ∨ sel = 0b10#2 ∨ sel = 0b11#2 := by bv_omega
  rcases hsel with rfl | rfl | rfl | rfl <;> cases h <;> exact ⟨rfl, rfl⟩

theorem encode_of_decodeStrobe {v : BitVec 1} (h : decodeStrobe v = .ok i) :
    encode i = .strobe v ∧ i.wellFormed = true := by
  unfold decodeStrobe at h
  split at h
  next hv =>
    cases h
    exact ⟨congrArg Code.strobe hv.symm, rfl⟩
  next => cases h

theorem encode_of_decodeInternal {k : BitVec 2} (h : decodeInternal k = .ok i) :
    encode i = .internal k ∧ i.wellFormed = true := by
  unfold decodeInternal at h
  repeat' split at h
  all_goals cases h
  all_goals simp [encode, Instr.wellFormed, *]

theorem encode_of_decodeWire {ct n : Byte} (h : decodeWire ct n = .ok i) :
    encode i = .wire ct n ∧ i.wellFormed = true := by
  unfold decodeWire at h
  repeat' split at h
  all_goals cases h
  all_goals simp [encode, Instr.wellFormed, *]

/-- Every code of every space that is accepted is the code of a well-formed operation: no bit is dropped. -/
theorem encode_of_decode {c : Code} (h : decode c = .ok i) : encode i = c ∧ i.wellFormed = true := by
  cases c with
  | ctrl24 w => exact encode_of_decodeCtl h
  | cap8 b =>
    cases h
    exact ⟨rfl, rfl⟩
  | strobe v => exact encode_of_decodeStrobe h
  | encsel sel b => exact encode_of_decodeEncsel h
  | internal k => exact encode_of_decodeInternal h
  | wire ct n => exact encode_of_decodeWire h

end

/-- Settles O10, the first direction by the operations, the second by the encoding spaces. -/
theorem decodeEncodeRoundTrip : Obligations.DecodeEncodeRoundTrip :=
  ⟨fun _ => decode_encode, fun _ _ => encode_of_decode⟩

/-- Settles O11: every word is a literal. -/
theorem opcodeMapWords : Obligations.OpcodeMapWords := by
  unfold Obligations.OpcodeMapWords
  decide

/-! ### The illegal control words (R67) -/

/-- R67's three conditions on the fields of a word: a reserved opcode, a nonzero `RSV`, a nonzero field that the opcode
map shows as 0. -/
def IllegalFields (opc rsv : BitVec 4) (a b : Byte) : Prop :=
  6 ≤ opc.toNat ∨ rsv ≠ 0#4 ∨
    ((opc = 0#4 ∨ opc = 1#4 ∨ opc = 4#4 ∨ opc = 5#4) ∧ (a ≠ 0#8 ∨ b ≠ 0#8)) ∨ (opc = 3#4 ∧ a ≠ 0#8)

section
variable {opc rsv : BitVec 4} {a b : Byte}

theorem decodeCtl_of_illegalFields (h : IllegalFields opc rsv a b) :
    ∃ e, decodeCtl (ctlWord opc rsv a b) = .error e := by
  refine ⟨illegalCause (ctlWord opc rsv a b), ?_⟩
  rw [decodeCtl_ctlWord]
  repeat' split
  case isFalse => rfl
  -- the fields of each row of the map are not illegal ones
  all_goals simp_all [IllegalFields]

theorem decodeCtl_of_not_illegalFields (h : ¬ IllegalFields opc rsv a b) :
    ∃ i, decodeCtl (ctlWord opc rsv a b) = .ok i := by
  simp only [IllegalFields, not_or, Nat.not_le, Classical.not_not, not_and] at h
  obtain ⟨hopc, rfl, hwhole, hdebug⟩ := h
  rw [decodeCtl_ctlWord]
  have hrow : opc = 0#4 ∨ opc = 1#4 ∨ opc = 2#4 ∨ opc = 3#4 ∨ opc = 4#4 ∨ opc = 5#4 := by bv_omega
  rcases hrow with rfl | rfl | rfl | rfl | rfl | rfl
  · obtain ⟨rfl, rfl⟩ := hwhole (by decide)
    exact ⟨.nop, rfl⟩
  · obtain ⟨rfl, rfl⟩ := hwhole (by decide)
    exact ⟨.newframe, rfl⟩
  · exact ⟨.textwr a b, rfl⟩
  · obtain rfl := hdebug rfl
    exact ⟨.debug b, rfl⟩
  · obtain ⟨rfl, rfl⟩ := hwhole (by decide)
    exact ⟨.linestart, rfl⟩
  · obtain ⟨rfl, rfl⟩ := hwhole (by decide)
    exact ⟨.lineend, rfl⟩

end
end Sys2Proof

/-! PROOFS. What the machine does with a code: an illegal control word faults (spec/30_encoding.md R67), a step performs
the decoded operation, ENCSEL selects the encoder (R71), the command frames have the bytes of R72 to R74 and R78. -/
namespace Sys2Proof.Machine

theorem runCode_of_decode {c : Code} {i : Instr} (h : decode c = .ok i) (s : State) : runCode c s = exec i s := by
  simp only [runCode, h]

/-- R67: an illegal word is not performed; it raises F_ILLEGAL. -/
theorem runCode_of_illegal {w : CtlWord} {e : DecodeError} {s : State} (h : decode (.ctrl24 w) = .error e)
    (hs : s.fault = 0#4) : runCode (.ctrl24 w) s = .next (raiseFault .illegal s) := by
  simp only [runCode, h, undecoded, illegalWord, whenLive_next, hs, true_and, true_or]

/-- Settles O12: a word decodes exactly where its fields are not illegal. -/
theorem illegalControlWordsFault : Obligations.IllegalControlWordsFault := by
  intro opc rsv a b s hs
  refine ⟨fun hillegal => ?_, fun hlegal => ?_⟩
  · obtain ⟨e, he⟩ := decodeCtl_of_illegalFields hillegal
    exact runCode_of_illegal he hs
  · obtain ⟨i, hi⟩ := decodeCtl_of_not_illegalFields hlegal
    exact ⟨i, hi, runCode_of_decode (c := .ctrl24 _) hi s⟩

/-! ### A step performs the decoded operation -/

theorem encode_space (i : Instr) : (encode i).space = i.space := by
  cases i <;> rfl

section
variable {s : State} {e : Event} {l : List Event}

theorem step_cons (hs : legal s.cfg = true) (hin : s.inputs = e :: l)
    (hclk : needsPclk e = true → s.pclkRuns = true) :
    step s = runEvent e { s with inputs := l } := by
  have hheld : (needsPclk e && !s.pclkRuns) = false := by
    cases h : needsPclk e
    · rfl
    · simp [hclk h]
  simp [step, stepInstance, hs, hin, hheld, popInput]

theorem step_op {c : Code} {i : Instr} (hs : legal s.cfg = true) (hin : s.inputs = .op c :: l)
    (hclk : needsPclk (.op c) = true → s.pclkRuns = true) (hc : decode c = .ok i) :
    step s = exec i { s with inputs := l } :=
  (step_cons hs hin hclk).trans (runCode_of_decode hc _)

theorem step_nil (hs : legal s.cfg = true) (hin : s.inputs = []) (hclk : s.pclkRuns = true) :
    step s = runCycle PortSample.quiet s := by
  simp [step, stepInstance, hs, hin, hclk]

/-- The ENCSEL and WIRE rows are combinational (log entries 8, 9, 20). -/
theorem needsPclk_encode (i : Instr) : needsPclk (.op (encode i)) = isOperation i := by
  simp only [needsPclk, encode_space, isOperation]

end

/-- Settles O56: by the equation of a step per kind of move. -/
theorem stepRunsTheDecodedOperation : Obligations.StepRunsTheDecodedOperation := by
  refine ⟨fun s i l hs hi hrow hin => ?_, fun s hs hclk => ⟨?_, ?_, ?_, ?_, ?_, ?_⟩⟩
  · exact step_op hs hin (fun hneeds => by simp [needsPclk_encode, hrow] at hneeds) (decode_encode hi)
  · exact fun c l i hin hc => step_op hs hin (fun _ => hclk) hc
  · exact fun i l hin hi => step_op hs hin (fun _ => hclk) (decode_encode hi)
  · exact fun w l e hin he hf => (step_cons hs hin fun _ => hclk).trans (runCode_of_illegal he hf)
  · exact fun p l hin => step_cons hs hin fun _ => hclk
  · exact fun a l hin => step_cons hs hin fun _ => hclk
  · exact fun hin => step_nil hs hin hclk

/-! ### The encoder select (R71, R88) -/

/-- Settles O5: the four rows of R71. -/
theorem encselSelectsTheAppliedEncoder : Obligations.EncselSelectsTheAppliedEncoder := by
  intro s b _
  have hrow (sel : BitVec 2) (h : encsel s.cfg s.highByteNext = sel) :
      encsel s.cfg s.highByteNext = sel ∧ appliedEncoder s b = encoderOf sel b := ⟨h, by rw [appliedEncoder, h]⟩
  refine ⟨fun hfmt hhigh => hrow 0b00#2 ?_, fun hfmt hhigh => hrow 0b01#2 ?_, fun hfmt hhigh => hrow 0b10#2 ?_,
    fun hfmt hhigh => hrow 0b11#2 ?_⟩ <;>
  · rw [encsel, hfmt, hhigh]
    rfl

/-! ### The payload of a new-frame command (R78, R96) -/

/-- The high bits of a dimension (R72). -/
theorem highBits_toNat (x : BitVec 10) : (x.extractLsb' 8 2).toNat = x.toNat / 256 := by
  have hx := x.isLt
  rw [BitVec.extractLsb'_toNat, Nat.shiftRight_eq_div_pow]
  omega

/-- A field shifted above another does not overlap it. -/
theorem or_shiftLeft {x k : Nat} (hx : x < 2 ^ k) (y : Nat) : x ||| y <<< k = x + 2 ^ k * y := by
  rw [Nat.or_comm, ← Nat.shiftLeft_add_eq_or_of_lt hx, Nat.shiftLeft_eq, Nat.mul_comm, Nat.add_comm]

/-- The three fields of the packed byte do not overlap, so it is their sum. -/
theorem packedByte_toNat (c : Cfg) :
    (packedByte c).toNat = c.width.toNat / 256 + 4 * (c.height.toNat / 256) + 16 * c.pixfmt.toNat := by
  have hw := c.width.isLt
  have hh := c.height.isLt
  have hp := c.pixfmt.isLt
  have hfit : (c.height.toNat / 256) <<< 2 < 2 ^ 8 ∧ c.pixfmt.toNat <<< 4 < 2 ^ 8 := by
    simp only [Nat.shiftLeft_eq]
    omega
  simp only [packedByte, BitVec.toNat_or, BitVec.toNat_shiftLeft, BitVec.toNat_setWidth, highBits_toNat]
  rw [Nat.mod_eq_of_lt (a := c.width.toNat / 256) (by omega), Nat.mod_eq_of_lt (a := c.height.toNat / 256) (by omega),
    Nat.mod_eq_of_lt (a := c.pixfmt.toNat) (by omega), Nat.mod_eq_of_lt hfit.1, Nat.mod_eq_of_lt hfit.2,
    or_shiftLeft (k := 2) (by omega), or_shiftLeft (by omega)]
  rfl

theorem unpackWidth_packedByte (c : Cfg) : unpackWidth (c.width.setWidth 8) (packedByte c) = c.width := by
  refine BitVec.eq_of_getLsbD_eq fun i hi => ?_
  interval_cases i <;> simp [unpackWidth, packedByte]

theorem unpackHeight_packedByte (c : Cfg) : unpackHeight (c.height.setWidth 8) (packedByte c) = c.height := by
  refine BitVec.eq_of_getLsbD_eq fun i hi => ?_
  interval_cases i <;> simp [unpackHeight, packedByte]

theorem unpackFormat_packedByte (c : Cfg) : unpackFormat (packedByte c) = c.pixfmt := by
  refine BitVec.eq_of_getLsbD_eq fun i hi => ?_
  interval_cases i <;> simp [unpackFormat, packedByte]


/-! ### The two wire formats as the WIRE rows yield them (R72 to R74) -/

theorem frameOf_newFramePayload (c : Cfg) : frameOf (newFramePayload c) =
    [0x00#8, 0x04#8, 0x11#8, c.width.setWidth 8, c.height.setWidth 8, packedByte c,
      0x11#8 ^^^ c.width.setWidth 8 ^^^ c.height.setWidth 8 ^^^ packedByte c] := by
  simp [frameOf, newFramePayload, xorAll]

theorem frameOf_debugPayload {t : List Byte} {n : Byte} (ht : t.length = n.toNat) :
    frameOf (debugPayload t) = [0x00#8, n + 1#8, 0x13#8] ++ t ++ [t.foldl (· ^^^ ·) 0x13#8] := by
  have hlen : BitVec.ofNat 8 (t.length + 1) = n + 1#8 := by simp [ht, BitVec.ofNat_add]
  simp [frameOf, debugPayload, xorAll, hlen]

/-- A text all of whose bytes are written has its frame (R74). -/
theorem execWireDebug_of_written {s : State} {n : Byte} (hpos : 1 ≤ n.toNat) (hn : n.toNat ≤ 254)
    (hwritten : ∀ i < n.toNat, (readText s i).isSome = true) :
    ∃ t : List Byte, t.length = n.toNat ∧ (∀ i < n.toNat, t[i]? = readText s i) ∧
      execWireDebug n s = .next (yieldResult (frameOf (debugPayload t)) s) := by
  obtain ⟨t, ht⟩ := Option.isSome_iff_exists.1 (textBytes_isSome.2 hwritten)
  obtain ⟨hlen, hread⟩ := textBytes_spec ht
  have hne : n ≠ 0#8 := by bv_omega
  exact ⟨t, hlen, fun i hi => (hread i hi).symm, execWireDebug_next.2 (.inr ⟨hne, hn, t, ht, rfl⟩)⟩

/-- Settles O14: the two frames, read byte by byte. -/
theorem wireRowsYieldTheirFrames : Obligations.WireRowsYieldTheirFrames := by
  refine ⟨fun s => ?_, fun s n => ⟨fun hpos hn hwritten => ?_, rfl, rfl⟩⟩
  · refine ⟨s.cfg.width.setWidth 8, s.cfg.height.setWidth 8, packedByte s.cfg, BitVec.toNat_setWidth ..,
      BitVec.toNat_setWidth .., packedByte_toNat s.cfg, ?_⟩
    rw [← frameOf_newFramePayload]
    rfl
  · obtain ⟨t, hlen, hread, hexec⟩ := execWireDebug_of_written hpos hn hwritten
    exact ⟨t, hlen, hread, frameOf_debugPayload hlen ▸ hexec⟩

/-! ### A new-frame command on the wire (R102, R105) -/

/-- R102: the running checksum takes in the frame's byte at position `k` exactly where that byte is the payload's. -/
theorem xorAll_take_succ {p : List Byte} {k : Nat} {v : Byte} (hk : k < p.length + 2)
    (hv : (frameOf p)[k]? = some v) :
    (if 2 ≤ k then xorAll (p.take (k - 2)) ^^^ v else xorAll (p.take (k - 2))) = xorAll (p.take (k + 1 - 2)) := by
  split
  next hpayload =>
    obtain ⟨j, rfl⟩ := Nat.exists_eq_add_of_le' hpayload
    have hj : j < p.length := Nat.lt_of_add_lt_add_right hk
    rw [frameOf_getElem?_payload hj, Option.some.injEq] at hv
    rw [show j + 2 + 1 - 2 = j + 1 by omega, Nat.add_sub_cancel, List.take_succ_eq_append_getElem hj, xorAll_concat, hv]
  next hheader => rw [show k + 1 - 2 = 0 by omega, show k - 2 = 0 by omega]

/-- The block is at position `k` of a new-frame command, and the sink is ready for each of the bytes to come. -/
structure NewFrameAt (k : Nat) (s : State) : Prop where
  live : s.fault = 0#4
  cmd : s.state = .cmd
  kind : s.ckind = .newFrame
  len : s.clen = 4#8
  idx : s.cidx = BitVec.ofNat 9 k
  chk : s.chk = xorAll ((newFramePayload s.cfg).take (k - 2))
  draws : s.draws = List.replicate (7 - k) .ready

section
variable {s : State} {k : Nat}

theorem newFrameAt_startCommand (hf : s.fault = 0#4) (hdraws : s.draws = List.replicate 7 .ready) :
    NewFrameAt 0 (startCommand .newFrame 4#8 s) :=
  ⟨hf, rfl, rfl, rfl, rfl, rfl, hdraws⟩

/-- The byte at position `k` is the frame's (R73, R102). -/
theorem NewFrameAt.frameByte_eq (hs : NewFrameAt k s) (hk : k < 7) :
    ∃ v, frameByte s = .ok v ∧ (frameOf (newFramePayload s.cfg))[k]? = some v := by
  obtain ⟨-, -, hkind, hlen, hidx, hchk, -⟩ := hs
  rw [frameOf_newFramePayload]
  interval_cases k <;> simp [frameByte, payloadByte, hkind, hlen, hidx, hchk, newFramePayload, xorAll]

/-- Before the checksum, a sent byte leaves the command at its next position. -/
theorem NewFrameAt.after_advanceFrame (hs : NewFrameAt k s) (hk : k < 6) {v : Byte}
    (hv : (frameOf (newFramePayload s.cfg))[k]? = some v) :
    NewFrameAt (k + 1) (advanceFrame v (emit v (consumeDraw s))) := by
  obtain ⟨hlive, hcmd, hkind, hlen, hidx, hchk, hdraws⟩ := hs
  have hpos : s.cidx.toNat = k := by rw [hidx, BitVec.toNat_ofNat, Nat.mod_eq_of_lt (by omega)]
  have hlt : s.cidx.toNat < s.clen.toNat + 2 := hpos.symm ▸ hlen.symm ▸ hk
  rw [advanceFrame_of_lt (s := emit v (consumeDraw s)) hlt]
  refine ⟨hlive, hcmd, hkind, hlen, ?_, ?_, ?_⟩
  · exact (congrArg (· + 1#9) hidx).trans (BitVec.ofNat_add k 1).symm
  · show (if 2 ≤ s.cidx.toNat then s.chk ^^^ v else s.chk) = xorAll ((newFramePayload s.cfg).take (k + 1 - 2))
    rw [hpos, hchk]
    exact xorAll_take_succ hk hv
  · show s.draws.tail = _
    rw [hdraws, List.tail_replicate, Nat.sub_sub]

/-- R102: an enabled CMD_STEP that finds the sink ready sends the frame's next byte. -/
theorem NewFrameAt.execCmdStep_sends (hs : NewFrameAt k s) (hk : k < 7) :
    ∃ v t, execCmdStep s = .next t ∧ (frameOf (newFramePayload s.cfg))[k]? = some v ∧ t.wire = s.wire ++ [v] ∧
      t.cfg = s.cfg ∧ (k < 6 → NewFrameAt (k + 1) t) := by
  obtain ⟨v, hbyte, hv⟩ := hs.frameByte_eq hk
  have hready : ready s = true := by
    obtain ⟨m, hm⟩ : ∃ m, 7 - k = m + 1 := ⟨6 - k, by omega⟩
    exact ready_cons (hs.draws.trans (by rw [hm, List.replicate_succ]))
  exact ⟨v, _, execCmdStep_next.2 (.inr ⟨hs.live, hs.cmd, v, hbyte, .inr ⟨hready, rfl⟩⟩), hv,
    advanceFrame_wire v _, advanceFrame_cfg v _, fun hk => hs.after_advanceFrame hk hv⟩

/-- The rest of a new-frame command, from position `k` on. -/
theorem runOps_cmdSteps_of_newFrameAt {n : Nat} (hn : k + n = 7) (hs : k < 7 → NewFrameAt k s) :
    ∃ t, runOps (List.replicate n .cmdStep) s = .next t ∧
      t.wire = s.wire ++ (frameOf (newFramePayload s.cfg)).drop k := by
  induction n generalizing s k with
  | zero =>
    obtain rfl : k = 7 := hn
    exact ⟨s, rfl, by simp [frameOf_newFramePayload]⟩
  | succ n ih =>
    obtain ⟨v, u, hexec, hv, hwire, hcfg, hnext⟩ := (hs (by omega)).execCmdStep_sends (by omega)
    obtain ⟨t, hrun, ht⟩ := ih (s := u) (k := k + 1) (by omega) fun hk => hnext (by omega)
    refine ⟨t, runOps_cons_next.2 ⟨u, hexec, hrun⟩, ?_⟩
    obtain ⟨hlt, rfl⟩ := List.getElem?_eq_some_iff.1 hv
    rw [ht, hwire, hcfg, List.append_assoc, List.singleton_append, ← List.drop_eq_getElem_cons]

/-- R95, R102, R106: NEWFRAME and 7 CMD_STEPs put the new-frame command frame on the wire. -/
theorem runOps_newframe (hf : s.fault = 0#4) (hidle : s.state = .idle)
    (hdraws : s.draws = List.replicate 7 .ready) :
    ∃ t, runOps (.newframe :: List.replicate 7 .cmdStep) s = .next t ∧
      t.wire = s.wire ++ frameOf (newFramePayload s.cfg) := by
  obtain ⟨t, hrun, hwire⟩ := runOps_cmdSteps_of_newFrameAt (n := 7) rfl fun _ => newFrameAt_startCommand hf hdraws
  exact ⟨t, runOps_cons_next.2 ⟨_, execNewframe_next.2 (.inr (.inr ⟨hf, hidle, rfl⟩)), hrun⟩, hwire⟩

end

/-- Settles O13: the unpacking field by field; the frames of the source build are those of its payload. -/
theorem newFramePayloadRoundTrip : Obligations.NewFramePayloadRoundTrip := by
  refine ⟨fun c _ => ⟨_, _, _, rfl, unpackWidth_packedByte c, unpackHeight_packedByte c,
    unpackFormat_packedByte c⟩, fun s hw hh hf hidle hdraws => ⟨fun hfmt => ?_, fun hfmt => ?_⟩⟩ <;>
  · obtain ⟨t, hrun, hwire⟩ := runOps_newframe hf hidle hdraws
    refine ⟨t, hrun, ?_⟩
    rw [hwire, frameOf_newFramePayload, packedByte, hw, hh, hfmt]
    rfl

end Sys2Proof.Machine

/-! PROOFS. The byte encoder (spec/40_byte_encoder.md): each function bit by bit, and what follows from its bits: the
marks of R90, that no output is the frame marker (R89), and with it what the scheduler emits (R133). -/
namespace Sys2Proof.Machine

/-! ### Masks that set or clear one bit -/

theorem getLsbD_or_mask {m : Byte} {j : Nat} (hm : m = BitVec.twoPow 8 j) (hj : j < 8) (b : Byte) (k : Nat) :
    (b ||| m).getLsbD k = if k = j then true else b.getLsbD k := by
  rw [hm, BitVec.getLsbD_or, BitVec.getLsbD_twoPow]
  by_cases hk : k = j
  · simp [hk, hj]
  · simp [hk, Ne.symm hk]

theorem getLsbD_and_mask {m : Byte} {j : Nat} (hm : m = ~~~BitVec.twoPow 8 j) (b : Byte) (k : Nat) :
    (b &&& m).getLsbD k = if k = j then false else b.getLsbD k := by
  rw [hm, BitVec.getLsbD_and, BitVec.getLsbD_not, BitVec.getLsbD_twoPow]
  cases hb : b.getLsbD k
  · simp
  · have hlt : k < 8 := BitVec.lt_of_getLsbD hb
    by_cases hk : k = j
    · simp [hk, hk ▸ hlt]
    · simp [hk, Ne.symm hk, hlt]

/-! ### The four functions, bit by bit (R84 to R87, R92) -/

/-- What is left of `b` without bit 0, as a number. -/
theorem and_FE_toNat (b : Byte) : (b &&& 0xFE#8).toNat = 2 * (b.toNat / 2) := by
  have hshift : b &&& 0xFE#8 = (b >>> 1) <<< 1 := by
    ext k hk
    rw [← BitVec.getLsbD_eq_getElem, getLsbD_and_mask (j := 0) (by decide)]
    cases k with
    | zero => simp
    | succ k => simp [Nat.add_comm]
  have hb := b.isLt
  rw [hshift, BitVec.toNat_shiftLeft, BitVec.toNat_ushiftRight, Nat.shiftRight_eq_div_pow, Nat.shiftLeft_eq]
  omega

/-- The zero test of R84, as a bound on the input. -/
theorem and_FE_eq_zero_iff (b : Byte) : b &&& 0xFE#8 = 0x00#8 ↔ b.toNat ≤ 1 := by
  rw [← BitVec.toNat_inj, and_FE_toNat, BitVec.toNat_ofNat]
  omega

theorem grayscaleFirst_eq (b : Byte) :
    grayscaleFirst b = if b.toNat ≤ 1 then 0x02#8 else b &&& 0xFE#8 := by
  simp only [grayscaleFirst, and_FE_eq_zero_iff]

theorem grayscaleSecond_getLsbD (b : Byte) (k : Nat) :
    (grayscaleSecond b).getLsbD k = if k = 0 then true else b.getLsbD k :=
  getLsbD_or_mask (by decide) (by decide) b k

theorem rgbHigh_getLsbD (b : Byte) (k : Nat) :
    (rgbHigh b).getLsbD k = if k = 3 then !b.getLsbD 5 else b.getLsbD k := by
  rw [rgbHigh]
  cases h5 : b.getLsbD 5
  · exact getLsbD_or_mask (by decide) (by decide) b k
  · exact getLsbD_and_mask (by decide) b k

theorem rgbLow_getLsbD (b : Byte) (k : Nat) :
    (rgbLow b).getLsbD k = if k = 5 then b.getLsbD 3 else if k = 0 then true else b.getLsbD k := by
  have hset (c : Byte) : (c ||| 0x01#8).getLsbD k = if k = 0 then true else c.getLsbD k :=
    getLsbD_or_mask (by decide) (by decide) c k
  rw [rgbLow]
  cases h3 : b.getLsbD 3
  · rw [if_neg (by decide), hset, getLsbD_and_mask (m := 0xDF#8) (j := 5) (by decide)]
    by_cases hk : k = 5 <;> simp [hk]
  · rw [if_pos rfl, show 0x21#8 = 0x20#8 ||| 0x01#8 by decide, ← BitVec.or_assoc, hset,
      getLsbD_or_mask (m := 0x20#8) (j := 5) (by decide) (by decide)]
    by_cases hk : k = 5 <;> simp [hk]

/-- The bit that `grayscaleFirst` forces, and the one it drops. -/
theorem grayscaleFirst_getLsbD (b : Byte) (k : Nat) : (grayscaleFirst b).getLsbD k =
    if k = 0 then false else if k = 1 then b.getLsbD 1 || decide (b.toNat ≤ 1) else b.getLsbD k := by
  have hclear : (b &&& 0xFE#8).getLsbD k = if k = 0 then false else b.getLsbD k :=
    getLsbD_and_mask (by decide) b k
  rw [grayscaleFirst_eq]
  by_cases hle : b.toNat ≤ 1
  · have hset : 0x02#8 = b &&& 0xFE#8 ||| 0x02#8 := by rw [(and_FE_eq_zero_iff b).2 hle, BitVec.zero_or]
    rw [if_pos hle, hset, getLsbD_or_mask (j := 1) (by decide) (by decide), hclear]
    by_cases hk : k = 1 <;> simp [hk, hle]
  · rw [if_neg hle, hclear]
    by_cases hk : k = 1 <;> simp [hk, hle]

/-! ### Marks and zero-avoidance (R89, R90) -/

theorem ne_zero_of_getLsbD {v : Byte} {k : Nat} (hk : v.getLsbD k = true) : v ≠ 0x00#8 := by
  rintro rfl
  simp at hk

theorem grayscaleFirst_ne_zero (b : Byte) : grayscaleFirst b ≠ 0x00#8 := by
  rw [grayscaleFirst_eq]
  split
  case isTrue => decide
  case isFalse hlt => exact mt (and_FE_eq_zero_iff b).1 hlt

theorem grayscaleSecond_ne_zero (b : Byte) : grayscaleSecond b ≠ 0x00#8 :=
  ne_zero_of_getLsbD (k := 0) (grayscaleSecond_getLsbD b 0)

/-- Bits 3 and 5 are complementary, so one of them is set. -/
theorem rgbHigh_ne_zero (b : Byte) : rgbHigh b ≠ 0x00#8 := by
  cases h5 : b.getLsbD 5
  · exact ne_zero_of_getLsbD (k := 3) (by rw [rgbHigh_getLsbD, if_pos rfl, h5]; rfl)
  · exact ne_zero_of_getLsbD (k := 5) (by rw [rgbHigh_getLsbD, if_neg (by decide), h5])

theorem rgbLow_ne_zero (b : Byte) : rgbLow b ≠ 0x00#8 :=
  ne_zero_of_getLsbD (k := 0) (rgbLow_getLsbD b 0)

theorem encoderOf_ne_zero (sel : BitVec 2) (b : Byte) : encoderOf sel b ≠ 0x00#8 := by
  unfold encoderOf
  split_ifs
  · exact grayscaleFirst_ne_zero b
  · exact grayscaleSecond_ne_zero b
  · exact rgbHigh_ne_zero b
  · exact rgbLow_ne_zero b

/-- R15 on the two bits the RGB565 encoders tie together. -/
theorem popcount_and_28 (v : Byte) :
    popcount (v &&& 0b00101000#8) = (v.getLsbD 3).toNat + (v.getLsbD 5).toNat := by
  cases h3 : v.getLsbD 3 <;> cases h5 : v.getLsbD 5 <;>
    simp [popcount, List.range_succ, h3, h5, -BitVec.getLsbD_eq_getElem]

theorem rgbHigh_bits (b : Byte) : (rgbHigh b).getLsbD 3 = !(rgbHigh b).getLsbD 5 := by
  rw [rgbHigh_getLsbD, rgbHigh_getLsbD]
  rfl

theorem rgbLow_bits (b : Byte) : (rgbLow b).getLsbD 5 = (rgbLow b).getLsbD 3 := by
  rw [rgbLow_getLsbD, rgbLow_getLsbD]
  rfl

theorem encodedAt_grayscale {c : Cfg} (hc : c.pixfmt = 0x2#4) (i : Nat) (b : Byte) :
    encodedAt c i b = if i % 2 = 0 then grayscaleFirst b else grayscaleSecond b := by
  rcases Nat.mod_two_eq_zero_or_one i with hi | hi <;> rw [encodedAt, encsel, hc, hi] <;> rfl

theorem encodedAt_rgb565 {c : Cfg} (hc : c.pixfmt = 0x1#4) (i : Nat) (b : Byte) :
    encodedAt c i b = if i % 2 = 0 then rgbHigh b else rgbLow b := by
  rcases Nat.mod_two_eq_zero_or_one i with hi | hi <;> rw [encodedAt, encsel, hc, hi] <;> rfl

/-! ### What the scheduler emits (R133) -/

section
variable {s t : State} {i : Instr}

/-- In CMD the framer owns the sink: a slot does nothing, and DRAIN_STEP and DIRECT_STEP are not enabled (R130). -/
theorem exec_scheduler_of_cmd (hi : i = .slot ∨ i = .drainStep ∨ i = .directStep)
    (hcmd : s.state = .cmd) (h : exec i s = .next t) : t = s := by
  rcases hi with rfl | rfl | rfl
  · rcases execSlot_next.1 h with ⟨-, ht⟩ | ⟨-, -, ht⟩ | ⟨-, hline, -⟩ | ⟨-, hline, -⟩
    · exact ht
    · exact ht
    · cases hcmd.symm.trans hline
    · cases hcmd.symm.trans hline
  · simpa [hcmd] using execDrainStep_next.1 h
  · simpa [hcmd] using execDirectStep_next.1 h

/-- SEND's byte is an encoded one (R132(e)), and DIRECT_STEP encodes what it sends. -/
theorem BlockInv.scheduler_emits_encoded (hs : BlockInv s) (hi : i = .slot ∨ i = .drainStep ∨ i = .directStep)
    (h : exec i s = .next t) : t.wire = s.wire ∨ ∃ v, t.wire = s.wire ++ [appliedEncoder s v] := by
  have hout : OutputEffect s t := by
    rcases hi with rfl | rfl | rfl
    · exact execSlot_effect hs h
    · exact execDrainStep_effect hs h
    · exact execDirectStep_effect hs h
  cases hout with
  | yielded r => exact .inl rfl
  | stayed => exact .inl rfl
  | retried _ => exact .inl rfl
  | formatted v _ _ _ => exact .inl rfl
  | sent v _ _ henc => exact .inr ⟨v, by rw [henc, sendByte_wire]⟩
  | sentDirect v _ _ _ => exact .inr ⟨v, rfl⟩
  | framed v hcmd _ _ => exact .inl (congrArg State.wire (exec_scheduler_of_cmd hi hcmd h))

end

/-- Settles O6: the four functions by the bit each of them sets, the scheduler by what it emits. -/
theorem pixelBytesAreNeverTheMarker : Obligations.PixelBytesAreNeverTheMarker := by
  refine ⟨fun b => ⟨grayscaleFirst_ne_zero b, grayscaleSecond_ne_zero b, rgbHigh_ne_zero b, rgbLow_ne_zero b⟩,
    fun i s t hs hi h => ?_⟩
  rcases hs.scheduler_emits_encoded hi h with hwire | ⟨v, hwire⟩
  · exact ⟨[], by rw [hwire, List.append_nil], nofun⟩
  · exact ⟨_, hwire, fun w hw => List.mem_singleton.1 hw ▸ encoderOf_ne_zero _ v⟩

/-! ### The ENCSEL rows (R84 to R87) -/

/-- Settles O1: R84 gives 0x02 to the inputs 0 and 1, whose upper bits are zero, and to 2 and 3, which keep bit 1. -/
theorem grayscaleFirstResult : Obligations.GrayscaleFirstResult := by
  intro b s
  refine ⟨rfl, rfl, grayscaleFirst_getLsbD b 0, ?_, by decide, by decide⟩
  rw [grayscaleFirst_eq]
  by_cases hle : b.toNat ≤ 1
  · rw [if_pos hle, if_pos (by omega)]
  · rw [if_neg hle]
    split
    case isTrue h3 =>
      apply BitVec.eq_of_toNat_eq
      rw [and_FE_toNat, show b.toNat / 2 = 1 by omega]
      rfl
    case isFalse => rfl

/-- Settles O2: R85 writes bit 0 alone, which an odd input has set. -/
theorem grayscaleSecondResult : Obligations.GrayscaleSecondResult := by
  intro b s
  refine ⟨rfl, rfl, grayscaleSecond_getLsbD b 0, fun hodd => ?_, by decide, by decide, by decide⟩
  apply BitVec.eq_of_getLsbD_eq
  intro k _
  rw [grayscaleSecond_getLsbD]
  split
  case isTrue hk => rw [hk, hodd]
  case isFalse => rfl

/-- Settles O3: R86 writes bit 3 alone. -/
theorem rgbHighResult : Obligations.RgbHighResult := by
  intro b s
  refine ⟨rfl, rfl, fun k hk => ?_, by decide, by decide, by decide, by decide⟩
  rw [rgbHigh_getLsbD, if_neg hk]

/-- Settles O4: R87 writes bits 5 and 0 alone. -/
theorem rgbLowResult : Obligations.RgbLowResult := by
  intro b s
  refine ⟨rfl, rfl, rgbLow_getLsbD b 0, fun k h5 h0 => ?_, by decide, by decide, by decide, by decide, by decide⟩
  rw [rgbLow_getLsbD, if_neg h5, if_neg h0]

/-- Settles O7: the marks by the bits each function writes, the alternation by R71's select at an even and at an odd
index. -/
theorem encoderMarksAndParity : Obligations.EncoderMarksAndParity := by
  refine ⟨fun b => ⟨?_, ?_, ?_, ?_⟩, fun c i b _ => ⟨fun hc => ?_, fun hc => ?_⟩⟩
  · rw [BitVec.and_one_eq_setWidth_ofBool_getLsbD, grayscaleFirst_getLsbD]
    rfl
  · rw [BitVec.and_one_eq_setWidth_ofBool_getLsbD, grayscaleSecond_getLsbD]
    rfl
  · rw [popcount_and_28, rgbHigh_bits]
    cases (rgbHigh b).getLsbD 5 <;> rfl
  · rw [popcount_and_28, rgbLow_bits]
    cases (rgbLow b).getLsbD 3
    · exact .inl rfl
    · exact .inr rfl
  · rw [encodedAt_grayscale hc]
    rcases Nat.mod_two_eq_zero_or_one i with hi | hi
    · simp [hi, grayscaleFirst_getLsbD, -BitVec.getLsbD_eq_getElem]
    · simp [hi, grayscaleSecond_getLsbD, -BitVec.getLsbD_eq_getElem]
  · rw [encodedAt_rgb565 hc]
    rcases Nat.mod_two_eq_zero_or_one i with hi | hi
    · simp [hi, rgbHigh_bits, -BitVec.getLsbD_eq_getElem]
    · simp [hi, rgbLow_bits, -BitVec.getLsbD_eq_getElem]

/-- Settles O8, by the idempotence of each function. -/
theorem encodersAreIdempotent : Obligations.EncodersAreIdempotent := fun s b =>
  ⟨appliedEncoder_idem s b, grayscaleFirst_idem b, grayscaleSecond_idem b, rgbHigh_idem b, rgbLow_idem b⟩

/-! ### The number of distinct outputs (R92) -/

theorem nodup_eraseDups {α : Type} [BEq α] [LawfulBEq α] : ∀ l : List α, l.eraseDups.Nodup
  | [] => by simp
  | a :: l => by
    rw [List.eraseDups_cons, List.nodup_cons, List.mem_eraseDups]
    exact ⟨by simp, nodup_eraseDups _⟩
termination_by l => l.length
decreasing_by exact Nat.lt_succ_of_le (List.length_filter_le _ l)

/-- The 256 inputs. -/
def allBytes : List Byte := (List.range 256).map (BitVec.ofNat 8)

theorem mem_allBytes (v : Byte) : v ∈ allBytes :=
  List.mem_map.2 ⟨v.toNat, List.mem_range.2 v.isLt, (BitVec.ofNat_toNat 8 v).trans (BitVec.setWidth_eq v)⟩

theorem nodup_allBytes : allBytes.Nodup := by
  refine List.Nodup.map_on (fun m hm n hn h => ?_) List.nodup_range
  rw [List.mem_range] at hm hn
  simpa [Nat.mod_eq_of_lt hm, Nat.mod_eq_of_lt hn] using congrArg BitVec.toNat h

/-- The outputs of an idempotent function are the bytes it leaves as they are. -/
theorem length_outputs_of_idem {f : Byte → Byte} (hf : ∀ b, f (f b) = f b) :
    ((List.range 256).map fun n => f (BitVec.ofNat 8 n)).eraseDups.length =
      allBytes.countP fun v => f v = v := by
  have hperm : (allBytes.map f).eraseDups.Perm (allBytes.filter fun v => f v = v) := by
    refine (List.perm_ext_iff_of_nodup (nodup_eraseDups _) (nodup_allBytes.filter _)).2 fun v => ?_
    rw [List.mem_eraseDups, List.mem_map, List.mem_filter, decide_eq_true_iff]
    constructor
    · rintro ⟨b, -, rfl⟩
      exact ⟨mem_allBytes _, hf b⟩
    · exact fun ⟨hv, hfix⟩ => ⟨v, hv, hfix⟩
  rw [List.countP_eq_length_filter, ← hperm.length_eq, allBytes, List.map_map]
  rfl

set_option maxRecDepth 2000 in
/-- Settles O9: the functions bit by bit; the numbers of outputs as the numbers of bytes that R91 leaves as they are. -/
theorem encoderCost : Obligations.EncoderCost := by
  refine ⟨fun b k _ => ⟨rgbHigh_getLsbD b k, rgbLow_getLsbD b k, grayscaleSecond_getLsbD b k,
    grayscaleFirst_getLsbD b k⟩, ?_, ?_, ?_, ?_⟩
  · rw [length_outputs_of_idem grayscaleFirst_idem]
    decide
  · rw [length_outputs_of_idem grayscaleSecond_idem]
    decide
  · rw [length_outputs_of_idem rgbHigh_idem]
    decide
  · rw [length_outputs_of_idem rgbLow_idem]
    decide

end Sys2Proof.Machine

/-! PROOFS. Frames: what each operation can write at most, as a record equation, and what follows for the text buffer
(spec/41_framer.md R98), the running checksum (R102) and a command under way (R106). -/
namespace Sys2Proof.Machine

section
variable {s t : State} {i : Instr}

/-! ### The frame of each operation -/

theorem execNewframe_frame (h : execNewframe s = .next t) :
    t = { s with fault := t.fault, state := t.state, ckind := t.ckind, clen := t.clen, cidx := t.cidx,
                 chk := t.chk } := by
  rcases execNewframe_next.1 h with ⟨-, rfl⟩ | ⟨-, -, rfl⟩ | ⟨-, -, rfl⟩ <;> rfl

theorem execDebug_frame {n : Byte} (h : execDebug n s = .next t) :
    t = { s with fault := t.fault, state := t.state, ckind := t.ckind, clen := t.clen, cidx := t.cidx,
                 chk := t.chk } := by
  rcases execDebug_next.1 h with ⟨-, rfl⟩ | ⟨-, -, rfl⟩ | ⟨-, -, -, rfl⟩ | ⟨-, -, -, rfl⟩ | ⟨-, -, -, -, -, rfl⟩ |
    ⟨-, -, -, -, -, rfl⟩ <;> rfl

theorem execLinestart_frame (h : execLinestart s = .next t) :
    t = { s with fault := t.fault, state := t.state, wr := t.wr, cursor := t.cursor, formatted := t.formatted,
                 highByteNext := t.highByteNext } := by
  rcases execLinestart_next.1 h with ⟨-, rfl⟩ | ⟨-, -, rfl⟩ | ⟨-, -, rfl⟩ <;> rfl

theorem execLineend_frame (h : execLineend s = .next t) :
    t = { s with fault := t.fault, state := t.state } := by
  rcases execLineend_next.1 h with ⟨-, rfl⟩ | ⟨-, -, rfl⟩ | ⟨-, -, -, rfl⟩ | ⟨-, -, -, -, rfl⟩ | ⟨-, -, -, -, rfl⟩ <;>
    rfl

theorem execTextwr_frame {a b : Byte} (h : execTextwr a b s = .next t) :
    t = { s with fault := t.fault, txt := t.txt, txtv := t.txtv } := by
  rcases execTextwr_next.1 h with ⟨-, rfl⟩ | ⟨-, -, rfl⟩ | ⟨-, -, -, rfl⟩ | ⟨-, -, -, rfl⟩ <;> rfl

theorem execCapture_frame {b : Byte} (h : execCapture b s = .next t) :
    t = { s with fault := t.fault, lb := t.lb, wr := t.wr } := by
  rcases execCapture_next.1 h with ⟨-, rfl⟩ | ⟨-, -, rfl⟩ | ⟨-, -, -, rfl⟩ | ⟨-, -, -, -, rfl⟩ | ⟨-, -, -, -, rfl⟩ <;>
    rfl

theorem execCmdStep_frame (h : execCmdStep s = .next t) :
    t = { s with state := t.state, cidx := t.cidx, chk := t.chk, wire := t.wire, txd := t.txd, req := t.req,
                 draws := t.draws, drawCount := t.drawCount } := by
  rcases execCmdStep_next.1 h with ⟨-, rfl⟩ | ⟨-, -, v, -, ⟨-, rfl⟩ | ⟨-, rfl⟩⟩
  · rfl
  · rfl
  · rw [advanceFrame_eq]
    rfl

/-- R83, R72 to R74: the frame of the lone ENCSEL and WIRE rows (log entries 8, 9). -/
theorem exec_frame_of_not_operation (hi : isOperation i = false) (h : exec i s = .next t) :
    t = { s with result := t.result } := by
  have hspace : i.space = .encsel ∨ i.space = .wire := by
    cases hsp : i.space <;> simp [isOperation, hsp] at hi ⊢
  obtain ⟨r, rfl⟩ := exec_combinational_next hspace h
  rfl

/-! ### The scheduler's steps -/

/-- `t` is `s` but for what a scheduler's step writes: the line's registers, `state`, LB and the send path. -/
def SchedulerFrame (s t : State) : Prop :=
  t = { s with state := t.state, cursor := t.cursor, formatted := t.formatted, highByteNext := t.highByteNext,
               lb := t.lb, wire := t.wire, txd := t.txd, req := t.req, draws := t.draws, drawCount := t.drawCount }

theorem formatStep_frame (h : formatStep s = .next t) : SchedulerFrame s t := by
  obtain ⟨v, -, -, -, rfl⟩ := formatStep_next.1 h
  rfl

theorem sendStep_frame (h : sendStep (consumeDraw s) = .next t) : SchedulerFrame s t := by
  obtain ⟨v, -, -, rfl⟩ := sendStep_next.1 h
  rfl

theorem directSend_frame {v : Byte} (h : directSend v (consumeDraw s) = .next t) : SchedulerFrame s t := by
  obtain ⟨-, rfl⟩ := directSend_next.1 h
  rfl

theorem SchedulerFrame.after_finishLine {before : State} (h : SchedulerFrame s t) :
    SchedulerFrame s (finishLine before t) := by
  rw [finishLine_eq]
  split
  · rw [h]
    rfl
  · exact h

theorem exec_schedulerFrame (hi : i = .slot ∨ i = .drainStep ∨ i = .directStep) (h : exec i s = .next t) :
    SchedulerFrame s t := by
  rcases hi with rfl | rfl | rfl
  · rcases execSlot_next.1 h with ⟨-, rfl⟩ | ⟨-, -, rfl⟩ | ⟨-, -, -, -, -, hformat⟩ | ⟨-, -, -, -, -, hattempt⟩
    · rfl
    · rfl
    · exact formatStep_frame hformat
    · rcases attempt_next.1 hattempt with ⟨-, hsend⟩ | ⟨-, rfl⟩
      · exact sendStep_frame hsend
      · rfl
  · rcases execDrainStep_next.1 h with ⟨-, rfl⟩ | ⟨-, -, -, -, hformat⟩ | ⟨-, -, -, -, -, rfl⟩ |
      ⟨-, -, -, -, -, u, hsend, rfl⟩
    · rfl
    · exact formatStep_frame hformat
    · rfl
    · exact (sendStep_frame hsend).after_finishLine
  · rcases execDirectStep_next.1 h with ⟨-, rfl⟩ | ⟨-, -, -, -, raw, -, ⟨-, rfl⟩ | ⟨-, u, hsend, rfl⟩⟩
    · rfl
    · rfl
    · split
      · exact (directSend_frame hsend).after_finishLine
      · exact directSend_frame hsend

/-! ### What the framer's own operations alone touch -/

/-- The operations of the framer (spec/41_framer.md R95, R98, R100, R102). -/
def framerOperation : Instr → Bool
  | .newframe | .textwr _ _ | .debug _ | .cmdStep => true
  | _ => false

/-- Every operation but the framer's leaves the framer's registers (10_state.md R32 to R35) and the text buffer
(R38). -/
theorem exec_frame_of_not_framer (hi : framerOperation i = false) (h : exec i s = .next t) :
    t = { t with ckind := s.ckind, clen := s.clen, cidx := s.cidx, chk := s.chk, txt := s.txt, txtv := s.txtv } := by
  cases i with
  | newframe | textwr | debug | cmdStep => cases hi
  | nop =>
    obtain rfl := next_iff.1 h
    rfl
  | linestart => rw [execLinestart_frame h]
  | lineend => rw [execLineend_frame h]
  | capture b => rw [execCapture_frame h]
  | slot => rw [exec_schedulerFrame (.inl rfl) h]
  | drainStep => rw [exec_schedulerFrame (.inr (.inl rfl)) h]
  | directStep => rw [exec_schedulerFrame (.inr (.inr rfl)) h]
  | _ => rw [exec_frame_of_not_operation rfl h]

/-- R98: the text buffer and its marks are TEXTWR's. -/
theorem exec_text_kept (hi : ∀ a b, i ≠ .textwr a b) (h : exec i s = .next t) : t.txt = s.txt ∧ t.txtv = s.txtv := by
  cases i with
  | textwr a b => exact absurd rfl (hi a b)
  | newframe =>
    rw [execNewframe_frame h]
    exact ⟨rfl, rfl⟩
  | debug n =>
    rw [execDebug_frame h]
    exact ⟨rfl, rfl⟩
  | cmdStep =>
    rw [execCmdStep_frame h]
    exact ⟨rfl, rfl⟩
  | _ =>
    rw [exec_frame_of_not_framer rfl h]
    exact ⟨rfl, rfl⟩

theorem execNewframe_chk (h : execNewframe s = .next t) : t.chk = s.chk ∨ t.chk = 0#8 := by
  rcases execNewframe_next.1 h with ⟨-, rfl⟩ | ⟨-, -, rfl⟩ | ⟨-, -, rfl⟩
  · exact .inl rfl
  · exact .inl rfl
  · exact .inr rfl

theorem execDebug_chk {n : Byte} (h : execDebug n s = .next t) : t.chk = s.chk ∨ t.chk = 0#8 := by
  rcases execDebug_next.1 h with ⟨-, rfl⟩ | ⟨-, -, rfl⟩ | ⟨-, -, -, rfl⟩ | ⟨-, -, -, rfl⟩ | ⟨-, -, -, -, -, rfl⟩ |
    ⟨-, -, -, -, -, rfl⟩
  case inr.inr.inr.inr.inr => exact .inr rfl
  all_goals exact .inl rfl

/-- R102: `chk` outlives the command; the next one clears it. -/
theorem exec_chk_cleared (hi : i ≠ .cmdStep) (h : exec i s = .next t) (hchk : t.chk ≠ s.chk) :
    (i = .newframe ∨ ∃ n, i = .debug n) ∧ t.chk = 0#8 := by
  cases i with
  | cmdStep => exact absurd rfl hi
  | newframe => exact ⟨.inl rfl, (execNewframe_chk h).resolve_left hchk⟩
  | debug n => exact ⟨.inr ⟨n, rfl⟩, (execDebug_chk h).resolve_left hchk⟩
  | textwr a b => exact absurd (congrArg State.chk (execTextwr_frame h)) hchk
  | _ => exact absurd (congrArg State.chk (exec_frame_of_not_framer rfl h)) hchk

/-- R106: in CMD every operation but CMD_STEP is without effect, faults, or is a lone row with its result. -/
theorem exec_of_cmd (hcmd : s.state = .cmd) (hi : i ≠ .cmdStep) (h : exec i s = .next t) :
    t = s ∨ (∃ c, t = raiseFault c s) ∨ ∃ r, t = yieldResult r s := by
  have hcontrol {x : CtlState} (hx : s.state = x) : x = .cmd := hx.symm.trans hcmd
  cases i with
  | cmdStep => exact absurd rfl hi
  | nop => exact .inl (next_iff.1 h)
  | newframe =>
    rcases execNewframe_next.1 h with ⟨-, ht⟩ | ⟨-, -, ht⟩ | ⟨-, hidle, -⟩
    · exact .inl ht
    · exact .inr (.inl ⟨_, ht⟩)
    · cases hcontrol hidle
  | textwr a b =>
    rcases execTextwr_next.1 h with ⟨-, ht⟩ | ⟨-, -, ht⟩ | ⟨-, hne, -⟩ | ⟨-, hne, -⟩
    · exact .inl ht
    · exact .inr (.inl ⟨_, ht⟩)
    · exact absurd hcmd hne
    · exact absurd hcmd hne
  | debug n =>
    rcases execDebug_next.1 h with ⟨-, ht⟩ | ⟨-, -, ht⟩ | ⟨-, hidle, -⟩ | ⟨-, hidle, -⟩ | ⟨-, hidle, -⟩ | ⟨-, hidle, -⟩
    · exact .inl ht
    · exact .inr (.inl ⟨_, ht⟩)
    all_goals cases hcontrol hidle
  | linestart =>
    rcases execLinestart_next.1 h with ⟨-, ht⟩ | ⟨-, -, ht⟩ | ⟨-, hidle, -⟩
    · exact .inl ht
    · exact .inr (.inl ⟨_, ht⟩)
    · cases hcontrol hidle
  | lineend =>
    rcases execLineend_next.1 h with ⟨-, ht⟩ | ⟨-, -, ht⟩ | ⟨-, hline, -⟩ | ⟨-, hline, -⟩ | ⟨-, hline, -⟩
    · exact .inl ht
    · exact .inr (.inl ⟨_, ht⟩)
    all_goals cases hcontrol hline
  | capture b =>
    rcases execCapture_next.1 h with ⟨-, ht⟩ | ⟨-, -, ht⟩ | ⟨-, hline, -⟩ | ⟨-, hline, -⟩ | ⟨-, hline, -⟩
    · exact .inl ht
    · exact .inr (.inl ⟨_, ht⟩)
    all_goals cases hcontrol hline
  | slot => exact .inl (exec_scheduler_of_cmd (.inl rfl) hcmd h)
  | drainStep => exact .inl (exec_scheduler_of_cmd (.inr (.inl rfl)) hcmd h)
  | directStep => exact .inl (exec_scheduler_of_cmd (.inr (.inr rfl)) hcmd h)
  | grayscaleFirst | grayscaleSecond | rgbHigh | rgbLow =>
    exact .inr (.inr (exec_combinational_next (.inl rfl) h))
  | wireNewframe | wireDebug => exact .inr (.inr (exec_combinational_next (.inr rfl) h))

end

/-- Settles O57, by the frame of each of the five operations. -/
theorem controlOperationsFrame : Obligations.ControlOperationsFrame := by
  refine fun s t => ⟨next_iff.1, fun i hi h => ?_, execLinestart_frame, execLineend_frame⟩
  rcases hi with rfl | ⟨n, rfl⟩
  · exact execNewframe_frame h
  · exact execDebug_frame h

/-- Settles O60, by the two frames. -/
theorem framerAndCombinationalFrame : Obligations.FramerAndCombinationalFrame :=
  fun _ _ => ⟨execCmdStep_frame, fun _ => exec_frame_of_not_operation⟩

/-- Settles O20: none of the three outcomes that `exec_of_cmd` leaves touches the framer or the wire. -/
theorem commandFrameIsContiguous : Obligations.CommandFrameIsContiguous := by
  intro i s t hcmd hi h
  rcases exec_of_cmd hcmd hi h with rfl | ⟨c, rfl⟩ | ⟨r, rfl⟩ <;>
    exact ⟨rfl, hcmd, rfl, rfl, rfl, rfl, rfl⟩

end Sys2Proof.Machine

/-! PROOFS. The framer (spec/41_framer.md): the words of its operations (R95, R98, R100), the text buffer, and a command
frame on the wire byte by byte (R102, R104). -/
namespace Sys2Proof.Machine

/-! ### Illegal words of the framer (R67, R95, R98, R100) -/

section
variable {s : State} {w : CtlWord}

theorem runCode_of_illegalFields (h : IllegalFields (fieldOpc w) (fieldRsv w) (fieldA w) (fieldB w))
    (hs : s.fault = 0#4) : runCode (.ctrl24 w) s = .next (raiseFault .illegal s) := by
  obtain ⟨e, he⟩ := decodeCtl_of_illegalFields h
  rw [ctlWord_fields] at he
  exact runCode_of_illegal he hs

/-- Bits 19:8 of a word are its fields `RSV` and `A` (R64). -/
theorem fieldRsv_append_fieldA (w : CtlWord) : fieldRsv w ++ fieldA w = w.extractLsb' 8 12 :=
  BitVec.extractLsb'_append_extractLsb'_eq_extractLsb' rfl

/-- Bits 19:0 of a word are its fields `RSV`, `A` and `B` (R64). -/
theorem fieldRsv_append_fieldA_append_fieldB (w : CtlWord) :
    fieldRsv w ++ fieldA w ++ fieldB w = w.extractLsb' 0 20 := by
  rw [fieldRsv_append_fieldA]
  exact BitVec.extractLsb'_append_extractLsb'_eq_extractLsb' rfl

/-- R67: an operation that takes no operand has no bit set below its `OPC`. -/
theorem runCode_of_bits19to0 (hopc : fieldOpc w = 0#4 ∨ fieldOpc w = 1#4 ∨ fieldOpc w = 4#4 ∨ fieldOpc w = 5#4)
    (hbits : w.extractLsb' 0 20 ≠ 0#20) (hs : s.fault = 0#4) :
    runCode (.ctrl24 w) s = .next (raiseFault .illegal s) := by
  refine runCode_of_illegalFields ?_ hs
  by_cases hrsv : fieldRsv w = 0#4
  · refine .inr (.inr (.inl ⟨hopc, ?_⟩))
    by_contra hzero
    obtain ⟨ha, hb⟩ := not_or.1 hzero
    rw [← fieldRsv_append_fieldA_append_fieldB, hrsv, not_not.1 ha, not_not.1 hb] at hbits
    exact hbits rfl
  · exact .inr (.inl hrsv)

/-- R67, R100: DEBUG has its operand in bits 7:0 and no other bit set below its `OPC`. -/
theorem runCode_of_bits19to8 (hopc : fieldOpc w = 3#4) (hbits : w.extractLsb' 8 12 ≠ 0#12) (hs : s.fault = 0#4) :
    runCode (.ctrl24 w) s = .next (raiseFault .illegal s) := by
  refine runCode_of_illegalFields ?_ hs
  by_cases hrsv : fieldRsv w = 0#4
  · refine .inr (.inr (.inr ⟨hopc, fun ha => ?_⟩))
    rw [← fieldRsv_append_fieldA, hrsv, ha] at hbits
    exact hbits rfl
  · exact .inr (.inl hrsv)

end

/-! ### The bytes of a frame by position (R73) -/

section
variable {p : List Byte}

theorem frameOf_getElem?_marker : (frameOf p)[0]? = some 0x00#8 := rfl

theorem frameOf_getElem?_length : (frameOf p)[1]? = some (BitVec.ofNat 8 p.length) := rfl

theorem frameOf_getElem?_checksum : (frameOf p)[p.length + 2]? = some (xorAll p) := by
  simp [frameOf]

end

/-! ### A command on the wire (R102) -/

/-- The first `k` bytes of the frame of payload `p` are sent, the framer reads `p`, and where a byte is left the command
goes on with it. -/
structure FrameAt (p : List Byte) (k : Nat) (s : State) : Prop where
  live : s.fault = 0#4
  len : s.clen.toNat = p.length
  payload : ∀ j (hj : j < p.length), payloadByte s j = .ok p[j]
  chk : s.chk = xorAll (p.take (k - 2))
  next : k < p.length + 3 → s.state = .cmd ∧ s.cidx.toNat = k

section
variable {s t : State} {p : List Byte} {k : Nat}

theorem advanceFrame_draws (v : Byte) (s : State) : (advanceFrame v s).draws = s.draws := by rw [advanceFrame_eq]

/-- The framer's bookkeeping leaves the payload it reads. -/
theorem payloadByte_advanceFrame (v : Byte) (j : Nat) :
    payloadByte (advanceFrame v (emit v (consumeDraw s))) j = payloadByte s j := by
  rw [advanceFrame_eq]
  rfl

/-- R102: the byte at position `k` is the frame's. -/
theorem FrameAt.frameByte_eq (hs : FrameAt p k s) (hk : k < p.length + 3) :
    ∃ v, frameByte s = .ok v ∧ (frameOf p)[k]? = some v := by
  obtain ⟨-, hlen, hpayload, hchk, hnext⟩ := hs
  obtain ⟨-, hidx⟩ := hnext hk
  rw [frameByte, hidx, hlen]
  split
  next hmarker => exact ⟨_, rfl, by rw [hmarker, frameOf_getElem?_marker]⟩
  next hmarker =>
  split
  next hlength =>
    exact ⟨_, rfl, by rw [hlength, frameOf_getElem?_length, ← hlen, BitVec.ofNat_toNat, BitVec.setWidth_eq]⟩
  next hlength =>
  obtain ⟨j, rfl⟩ : ∃ j, k = j + 2 := ⟨k - 2, by omega⟩
  split
  next hin =>
    have hj : j < p.length := by omega
    exact ⟨_, hpayload j hj, frameOf_getElem?_payload hj⟩
  next hout =>
    obtain rfl : j = p.length := by omega
    exact ⟨_, rfl, by rw [frameOf_getElem?_checksum, hchk, Nat.add_sub_cancel, List.take_length]⟩

/-- A sent byte leaves the command at its next position, or complete. -/
theorem FrameAt.after_advanceFrame (hs : FrameAt p k s) (hk : k < p.length + 3) {v : Byte}
    (hv : (frameOf p)[k]? = some v) : FrameAt p (k + 1) (advanceFrame v (emit v (consumeDraw s))) := by
  obtain ⟨hlive, hlen, hpayload, hchk, hnext⟩ := hs
  obtain ⟨hcmd, hidx⟩ := hnext hk
  have hread (j : Nat) (hj : j < p.length) :
      payloadByte (advanceFrame v (emit v (consumeDraw s))) j = .ok p[j] :=
    (payloadByte_advanceFrame v j).trans (hpayload j hj)
  rcases Nat.lt_or_eq_of_le (Nat.le_of_lt_succ hk) with hmore | rfl
  · have hlt : s.cidx.toNat < s.clen.toNat + 2 := by omega
    rw [advanceFrame_of_lt (s := emit v (consumeDraw s)) hlt] at hread ⊢
    refine ⟨hlive, hlen, hread, ?_, fun _ => ⟨hcmd, (cidx_toNat_succ hlt).trans (congrArg _ hidx)⟩⟩
    show (if 2 ≤ s.cidx.toNat then s.chk ^^^ v else s.chk) = xorAll (p.take (k + 1 - 2))
    rw [hidx, hchk]
    exact xorAll_take_succ hmore hv
  · have hlast : s.cidx.toNat = s.clen.toNat + 2 := by omega
    rw [advanceFrame_of_last (s := emit v (consumeDraw s)) hlast] at hread ⊢
    refine ⟨hlive, hlen, hread, ?_, fun hlt => by omega⟩
    show s.chk = _
    rw [hchk, List.take_of_length_le (by omega), List.take_of_length_le (by omega)]

/-- R102: a CMD_STEP that finds the sink ready sends the frame's next byte. -/
theorem FrameAt.execCmdStep_sends (hs : FrameAt p k s) (hk : k < p.length + 3) (hready : ready s = true) :
    ∃ v t, execCmdStep s = .next t ∧ (frameOf p)[k]? = some v ∧ t.wire = s.wire ++ [v] ∧
      t.draws = s.draws.tail ∧ FrameAt p (k + 1) t := by
  obtain ⟨v, hbyte, hv⟩ := hs.frameByte_eq hk
  obtain ⟨hcmd, -⟩ := hs.next hk
  exact ⟨v, _, execCmdStep_next.2 (.inr ⟨hs.live, hcmd, v, hbyte, .inr ⟨hready, rfl⟩⟩), hv,
    advanceFrame_wire v _, advanceFrame_draws v _, hs.after_advanceFrame hk hv⟩

/-- R102: `n` CMD_STEPs that find the sink ready send the next `n` bytes of the frame. -/
theorem FrameAt.runOps_cmdSteps {n : Nat} {l : List Draw} (hs : FrameAt p k s) (hn : k + n ≤ p.length + 3)
    (hdraws : s.draws = List.replicate n .ready ++ l) :
    ∃ t, runOps (List.replicate n .cmdStep) s = .next t ∧ t.wire = s.wire ++ ((frameOf p).drop k).take n ∧
      FrameAt p (k + n) t := by
  induction n generalizing s k with
  | zero => exact ⟨s, rfl, by simp, hs⟩
  | succ n ih =>
    rw [List.replicate_succ, List.cons_append] at hdraws
    obtain ⟨v, u, hexec, hv, hwire, hu, hnext⟩ := hs.execCmdStep_sends (by omega) (ready_cons hdraws)
    obtain ⟨t, hrun, ht, hframe⟩ := ih hnext (by omega) (by rw [hu, hdraws, List.tail_cons])
    refine ⟨t, runOps_cons_next.2 ⟨u, hexec, hrun⟩, ?_, by rwa [Nat.add_right_comm] at hframe⟩
    obtain ⟨hlt, rfl⟩ := List.getElem?_eq_some_iff.1 hv
    rw [ht, hwire, List.append_assoc, List.singleton_append, List.drop_eq_getElem_cons hlt, List.take_succ_cons]

/-! ### An accepted command -/

theorem frameAt_startCommand_newFrame (hf : s.fault = 0#4) :
    FrameAt (newFramePayload s.cfg) 0 (startCommand .newFrame 4#8 s) :=
  ⟨hf, rfl, fun j hj => by simp [payloadByte, hj], rfl, fun _ => ⟨rfl, rfl⟩⟩

theorem frameAt_startCommand_debug (hf : s.fault = 0#4) {n : Byte} {x : List Byte} (hn : n.toNat ≤ 254)
    (hx : textBytes s.txt n.toNat = some x) : FrameAt (debugPayload x) 0 (startCommand .debug (n + 1#8) s) := by
  obtain ⟨hlen, hread⟩ := textBytes_spec hx
  refine ⟨hf, ?_, fun j hj => ?_, rfl, fun _ => ⟨rfl, rfl⟩⟩
  · rw [startCommand_clen, debugLength_toNat hn, debugPayload, List.length_cons, hlen]
  · cases j with
    | zero => rfl
    | succ j =>
      have hj : j < x.length := Nat.lt_of_succ_lt_succ hj
      have hbyte : s.txt.read j = some x[j] := by rw [hread j (by omega), List.getElem?_eq_getElem hj]
      simp [payloadByte, readText, hbyte, debugPayload]

/-- R95, R102: NEWFRAME and `k` CMD_STEPs send the first `k` bytes of its frame. -/
theorem runOps_newframe_cmdSteps (hf : s.fault = 0#4) (hidle : s.state = .idle)
    (hdraws : s.draws = List.replicate 7 .ready) (hk : k ≤ 7) :
    ∃ t, runOps (.newframe :: List.replicate k .cmdStep) s = .next t ∧
      t.wire = s.wire ++ (frameOf (newFramePayload s.cfg)).take k ∧
      t.chk = xorAll ((newFramePayload s.cfg).take (k - 2)) := by
  have hstart : (startCommand .newFrame 4#8 s).draws = List.replicate k .ready ++ List.replicate (7 - k) .ready := by
    rw [List.replicate_append_replicate, Nat.add_sub_cancel' hk]
    exact hdraws
  have hlen : 0 + k ≤ (newFramePayload s.cfg).length + 3 := (Nat.zero_add k).trans_le hk
  obtain ⟨t, hrun, hwire, hframe⟩ := (frameAt_startCommand_newFrame hf).runOps_cmdSteps hlen hstart
  rw [Nat.zero_add] at hframe
  exact ⟨t, runOps_cons_next.2 ⟨_, execNewframe_next.2 (.inr (.inr ⟨hf, hidle, rfl⟩)), hrun⟩, hwire, hframe.chk⟩

/-- R100, R102: DEBUG over a written and marked text and its CMD_STEPs put the whole frame on the wire. -/
theorem runOps_debug_cmdSteps (hf : s.fault = 0#4) (hidle : s.state = .idle) {n : Byte} {x : List Byte}
    (hpos : n ≠ 0#8) (hn : n.toNat ≤ 254) (hmarked : allMarked s n.toNat = true)
    (hx : textBytes s.txt n.toNat = some x) {l : List Draw}
    (hdraws : s.draws = List.replicate (n.toNat + 4) .ready ++ l) :
    ∃ t, runOps (.debug n :: List.replicate (n.toNat + 4) .cmdStep) s = .next t ∧
      t.wire = s.wire ++ frameOf (debugPayload x) := by
  have hlen : (debugPayload x).length = n.toNat + 1 := congrArg (· + 1) (textBytes_spec hx).1
  obtain ⟨t, hrun, hwire, -⟩ :=
    (frameAt_startCommand_debug hf hn hx).runOps_cmdSteps (n := n.toNat + 4) (by omega) hdraws
  refine ⟨t, runOps_cons_next.2 ⟨_, execDebug_next.2 ?_, hrun⟩, ?_⟩
  · exact .inr (.inr (.inr (.inr (.inr ⟨hf, hidle, hpos, hn, hmarked, rfl⟩))))
  · rw [hwire, List.drop_zero, List.take_of_length_le (by rw [frameOf_length]; omega)]
    rfl

end

/-! ### The text buffer (R98) -/

section
variable {s : State} {a b : Byte}

theorem exec_textwr_of_index (hf : s.fault = 0#4) (hcmd : s.state ≠ .cmd) (ha : a.toNat < 254) :
    exec (.textwr a b) s = .next (writeText a.toNat b s) :=
  execTextwr_next.2 (.inr (.inr (.inr ⟨hf, hcmd, ha, rfl⟩)))

theorem allMarked_eq_false_iff (s : State) (n : Nat) :
    allMarked s n = false ↔ ∃ i, i < n ∧ textMarked s i = false := by
  simp [allMarked]

/-- R98, R100: the two TEXTWRs of the text "OK" leave a text DEBUG accepts. -/
theorem textBytes_writeText_two (s : State) (v w : Byte) :
    textBytes (writeText 1 w (writeText 0 v s)).txt 2 = some [v, w] := by
  simp [textBytes_succ, textBytes_zero, Memory.read_write]

theorem allMarked_writeText_two (s : State) (v w : Byte) : allMarked (writeText 1 w (writeText 0 v s)) 2 = true := by
  refine (allMarked_iff _ 2).2 fun i hi => ?_
  have hi : i = 0 ∨ i = 1 := by omega
  rcases hi with rfl | rfl <;> simp [textMarked_writeText]

end

/-! ### CMD_STEP (R102, R104) -/

section
variable {s : State}

/-- The command's frame, read by position: the marker, the length, the payload, the checksum so far. -/
theorem BlockInv.frame_bytes (hs : BlockInv s) (hcmd : s.state = .cmd) {v : Byte}
    (hv : (frameOf (commandPayload s))[s.cidx.toNat]? = some v) :
    (s.cidx = 0#9 → v = 0x00#8) ∧ (s.cidx = 1#9 → v = s.clen) ∧
    (2 ≤ s.cidx.toNat → s.cidx.toNat ≤ s.clen.toNat + 1 → (commandPayload s)[s.cidx.toNat - 2]? = some v) ∧
    (s.cidx.toNat = s.clen.toNat + 2 → v = s.chk) := by
  obtain ⟨hlen, -⟩ := hs.cmd_len hcmd
  refine ⟨fun hidx => ?_, fun hidx => ?_, fun hlow hhigh => ?_, fun hlast => ?_⟩
  · rw [hidx] at hv
    exact (Option.some.inj hv).symm
  · rw [hidx] at hv
    rw [← Option.some.inj hv, ← hlen, BitVec.ofNat_toNat, BitVec.setWidth_eq]
  · obtain ⟨j, hj⟩ := Nat.exists_eq_add_of_le' hlow
    have hlt : j < (commandPayload s).length := by omega
    rw [hj, frameOf_getElem?_payload hlt] at hv
    rw [hj, Nat.add_sub_cancel, List.getElem?_eq_getElem hlt, hv]
  · rw [hlast, hlen, frameOf_getElem?_checksum] at hv
    rw [← Option.some.inj hv, hs.cmd_chk hcmd, List.take_of_length_le (by omega)]

end

/-- R104: the payload begins with the command-type byte. -/
theorem commandPayload_head? (s : State) :
    (commandPayload s).head? = some 0x11#8 ∨ (commandPayload s).head? = some 0x13#8 := by
  cases hkind : s.ckind with
  | newFrame => exact .inl (by rw [commandPayload_newFrame hkind]; rfl)
  | debug => exact .inr (by rw [commandPayload, hkind]; rfl)

/-! ### The obligations -/

/-- Settles O15: the operation by its cases, the example by its frame. -/
theorem newframeStartsACommand : Obligations.NewframeStartsACommand := by
  refine fun s hf => ⟨rfl, fun w hopc hbits => ?_, fun hidle => ?_, fun hne => ?_, fun hfmt hw hh hidle hdraws => ?_⟩
  · exact runCode_of_bits19to0 (.inr (.inl hopc)) hbits hf
  · exact execNewframe_next.2 (.inr (.inr ⟨hf, hidle, rfl⟩))
  · exact execNewframe_next.2 (.inr (.inl ⟨hf, hne, rfl⟩))
  · exact (newFramePayloadRoundTrip.2 s hw hh hf hidle hdraws).1 hfmt

/-- Settles O16: the operation by its cases, the other operations by `exec_text_kept`. -/
theorem textwrWritesTheTextBuffer : Obligations.TextwrWritesTheTextBuffer := by
  refine fun a b s hf => ⟨decode_encode (i := .textwr a b) rfl, fun rsv hrsv => ?_, fun hcmd => ?_, fun hne ha => ?_,
    fun hne ha => ?_, fun i t => exec_text_kept⟩
  · exact (illegalControlWordsFault _ rsv a b s hf).1 (.inr (.inl hrsv))
  · exact execTextwr_next.2 (.inr (.inl ⟨hf, hcmd, rfl⟩))
  · exact execTextwr_next.2 (.inr (.inr (.inl ⟨hf, hne, ha, rfl⟩)))
  · have ha : a.toNat < 254 := Nat.lt_succ_of_le ha
    refine ⟨_, exec_textwr_of_index hf hne ha, rfl, ?_, ?_, fun i hi => ⟨?_, ?_⟩⟩
    · rw [readText_writeText, if_pos rfl]
    · simp [textMarked_writeText s b ha]
    · rw [readText_writeText, if_neg hi]
    · simp [textMarked_writeText s b ha, hi]

/-- Settles O17: the operation by its cases, the example by its frame. -/
theorem debugStartsACommand : Obligations.DebugStartsACommand := by
  refine fun n s hf => ⟨decode_encode (i := .debug n) rfl, fun w hopc hbits => runCode_of_bits19to8 hopc hbits hf,
    fun hne => ?_, fun hidle hn => ?_, fun hidle hn => ?_, fun hidle hpos hmax hgap => ?_,
    fun hidle hpos hmax hall => ?_, fun hidle hdraws => ?_⟩
  · exact execDebug_next.2 (.inr (.inl ⟨hf, hne, rfl⟩))
  · exact execDebug_next.2 (.inr (.inr (.inl ⟨hf, hidle, hn, rfl⟩)))
  · exact execDebug_next.2 (.inr (.inr (.inr (.inl ⟨hf, hidle, hn ▸ by decide, rfl⟩))))
  · have hgap := (allMarked_eq_false_iff s n.toNat).2 hgap
    exact execDebug_next.2 (.inr (.inr (.inr (.inr (.inl ⟨hf, hidle, hpos, by bv_omega, hgap, rfl⟩)))))
  · have hn : n.toNat ≤ 254 := by bv_omega
    have hall := (allMarked_iff s n.toNat).2 hall
    exact ⟨execDebug_next.2 (.inr (.inr (.inr (.inr (.inr ⟨hf, hidle, hpos, hn, hall, rfl⟩))))), debugLength_toNat hn⟩
  · have hcmd : s.state ≠ .cmd := by simp [hidle]
    obtain ⟨t, hrun, hwire⟩ := runOps_debug_cmdSteps (s := writeText 1 0x4B#8 (writeText 0 0x4F#8 s)) (n := 2#8)
      (l := []) hf hidle (by decide) (by decide) (allMarked_writeText_two s _ _) (textBytes_writeText_two s _ _) hdraws
    exact ⟨t, runOps_cons_next.2 ⟨_, exec_textwr_of_index hf hcmd (by decide),
      runOps_cons_next.2 ⟨_, exec_textwr_of_index hf hcmd (by decide), hrun⟩⟩, hwire⟩

/-- Settles O18: the byte by its position in the frame, the example by its frame, the rest by `exec_chk_cleared`. -/
theorem cmdStepEmitsTheNextByte : Obligations.CmdStepEmitsTheNextByte := by
  refine ⟨fun s hoff => execCmdStep_next.2 (.inl ⟨hoff, rfl⟩), fun s hs hf hcmd => ?_,
    fun s hfmt hw hh hf hidle hdraws k x hkx => ?_, fun i s t h hi => exec_chk_cleared hi h⟩
  · obtain ⟨v, hbyte, hv⟩ := hs.frameByte_eq hcmd
    obtain ⟨hmarker, hlength, hpayload, hchecksum⟩ := hs.frame_bytes hcmd hv
    refine ⟨v, hmarker, hlength, hpayload, hchecksum, fun hready => ?_, fun hready => ?_⟩
    · exact execCmdStep_next.2 (.inr ⟨hf, hcmd, v, hbyte, .inl ⟨hready, rfl⟩⟩)
    · refine execCmdStep_next.2 (.inr ⟨hf, hcmd, v, hbyte, .inr ⟨hready, ?_⟩⟩)
      rw [advanceFrame_eq, ← hcmd]
      rfl
  · have hpayload : newFramePayload s.cfg = [0x11#8, 0xA0#8, 0x78#8, 0x10#8] := by
      rw [newFramePayload, packedByte, hw, hh, hfmt]
      rfl
    have hrow : k ≤ 7 ∧ xorAll ([0x11#8, 0xA0#8, 0x78#8, 0x10#8].take (k - 2)) = x := by
      simp only [List.mem_cons, Prod.mk.injEq, List.not_mem_nil, or_false] at hkx
      rcases hkx with ⟨rfl, rfl⟩ | ⟨rfl, rfl⟩ | ⟨rfl, rfl⟩ | ⟨rfl, rfl⟩ | ⟨rfl, rfl⟩ <;> decide
    obtain ⟨hk, hx⟩ := hrow
    obtain ⟨t, hrun, hwire, hchk⟩ := runOps_newframe_cmdSteps hf hidle hdraws hk
    rw [hpayload] at hwire hchk
    exact ⟨t, hrun, hchk.trans hx, hwire⟩

/-- Settles O19: the frame's last byte is the XOR of its payload. -/
theorem checksumClosesTheFrame : Obligations.ChecksumClosesTheFrame := by
  intro s t hs hf hcmd hlast hready h
  obtain ⟨hlen, -⟩ := hs.cmd_len hcmd
  obtain ⟨v, hbyte, hv⟩ := hs.frameByte_eq hcmd
  rw [hlast, hlen, frameOf_getElem?_checksum, Option.some.injEq] at hv
  have hsent : exec .cmdStep s = .next (advanceFrame v (emit v (consumeDraw s))) :=
    execCmdStep_next.2 (.inr ⟨hf, hcmd, v, hbyte, .inr ⟨hready, rfl⟩⟩)
  obtain rfl := next_iff.1 (hsent.symm.trans h)
  refine ⟨?_, ?_, commandPayload_head? s⟩
  · rw [advanceFrame_wire, hv]
    rfl
  · rw [advanceFrame_of_last (s := emit v (consumeDraw s)) hlast]

end Sys2Proof.Machine

/-! PROOFS. The block's invariant (spec/42_scheduler.md R132) over whole steps: cycles, clock edges, resets. -/
namespace Sys2Proof.Machine

section
variable {s t : State}

/-! ### Codes and cycles -/

theorem BlockInv.after_runCode (hs : BlockInv s) {c : Code} (h : runCode c s = .next t) : BlockInv t := by
  rcases runCode_next h with ⟨i, -, hexec⟩ | ⟨-, -, rfl⟩ | rfl
  · exact hs.after_exec hexec
  · exact hs.after_raiseFault .illegal
  · exact hs

theorem BlockInv.after_secondOfCycle (hs : BlockInv s) {p : PortSample} (h : secondOfCycle p s = .next t) :
    BlockInv t := by
  rcases secondOfCycle_next h with ⟨c, -, hcode⟩ | ⟨-, rfl⟩ | rfl
  · exact hs.after_runCode hcode
  · exact hs.after_raiseFault .protocol
  · exact hs

/-- A clock edge keeps the number of stages (R41). -/
theorem BlockInv.after_pclkEdge (hs : BlockInv s) : BlockInv (pclkEdge s) :=
  { hs with ack_stages := (shiftIn_length _ _).trans hs.ack_stages }

theorem BlockInv.after_sclkEdge (hs : BlockInv s) (canAccept : Bool) : BlockInv (sclkEdge canAccept s) := by
  rw [sclkEdge_eq]
  exact { hs with req_stages := (shiftIn_length _ _).trans hs.req_stages }

theorem BlockInv.after_runCycle (hs : BlockInv s) {p : PortSample} (h : runCycle p s = .next t) : BlockInv t := by
  obtain ⟨u, v, hfirst, hsecond, rfl⟩ := runCycle_next.1 h
  exact ((hs.after_firstOfCycle hfirst).after_secondOfCycle hsecond).after_pclkEdge

/-! ### The environment's moves -/

theorem BlockInv.after_popInput (hs : BlockInv s) : BlockInv (popInput s) := { hs with }

theorem BlockInv.after_setPclk (hs : BlockInv s) (runs : Bool) : BlockInv (setPclk runs s) := { hs with }

/-- R165: reset leaves no line, no command and two empty memories. -/
theorem blockInv_resetBlock (hlegal : legal s.cfg = true) : BlockInv (resetBlock s) where
  cfg_legal := hlegal
  fault_code := Nat.zero_le _
  cursor_le_wr := Nat.le_refl _
  wr_le_line := Nat.zero_le _
  formatted_pending := nofun
  drain_full := nofun
  pairing := rfl
  direct_one := fun _ => Nat.zero_le _
  outside_sent := fun _ => rfl
  line_written := nofun
  formatted_encoded := nofun
  marks := fun _ _ => BitVec.getLsbD_zero
  lb_wf := Memory.wf_nil
  txt_wf := Memory.wf_nil
  lb_inside := nofun
  txt_inside := nofun
  cmd_len := nofun
  cmd_idx := nofun
  cmd_text := nofun
  cmd_chk := nofun
  ack_stages := List.length_replicate
  req_stages := List.length_replicate

theorem BlockInv.after_runEvent (hs : BlockInv s) {e : Event} (h : runEvent e s = .next t) : BlockInv t := by
  cases e with
  | op c => exact hs.after_runCode h
  | cycle p => exact hs.after_runCycle h
  | sclk canAccept => exact next_iff.1 h ▸ hs.after_sclkEdge canAccept
  | pclk runs => exact next_iff.1 h ▸ hs.after_setPclk runs
  | reset prst srst =>
    rcases runReset_next.1 h with ⟨-, -, -, rfl⟩ | ⟨-, -, rfl⟩
    · exact blockInv_resetBlock hs.cfg_legal
    · exact hs

theorem BlockInv.after_step (hs : BlockInv s) (h : step s = .next t) : BlockInv t := by
  obtain ⟨-, ⟨-, -, hcycle⟩ | ⟨-, -, rfl⟩ | ⟨e, l, -, ⟨-, -, rfl⟩ | ⟨-, hevent⟩⟩⟩ := step_next.1 h
  · exact hs.after_runCycle hcycle
  · exact hs
  · exact hs.after_popInput
  · exact hs.after_popInput.after_runEvent hevent

/-- The closure of `BlockInv.after_exec` over a run of operations. -/
theorem BlockInv.after_runOps {is : List Instr} (hs : BlockInv s) (h : runOps is s = .next t) : BlockInv t := by
  induction is generalizing s with
  | nil => exact next_iff.1 h ▸ hs
  | cons i is ih =>
    obtain ⟨u, hexec, hrun⟩ := runOps_cons_next.1 h
    exact ih (hs.after_exec hexec) hrun

end

/-- Settles O44: by the moves a step can take. -/
theorem blockInvKeptByEveryStep : Obligations.BlockInvKeptByEveryStep :=
  fun _ _ hs h => hs.after_step h

end Sys2Proof.Machine

/-! PROOFS. The scheduler's operations and steps one by one (spec/42_scheduler.md R108 to R130), and what each of them
leaves unchanged. -/
namespace Sys2Proof.Machine

section
variable {s t : State} {v : Byte} {i : Instr}

/-! ### The sub-steps at a pending byte (R116, R117, R126) -/

theorem Pending.formatStep_eq (hv : Pending s v) (hline : s.wr.toNat ≤ (lineBytes s.cfg).toNat) :
    formatStep s = .next (setFormatted (encodeInPlace v s)) :=
  formatStep_next.2 ⟨v, hv.unsent, hv.read, Nat.lt_of_lt_of_le hv.unsent hline, rfl⟩

theorem Pending.sendStep_eq (hv : Pending s v) :
    sendStep (consumeDraw s) = .next (sentFlags (bumpCursor (emit v (consumeDraw s)))) :=
  sendStep_next.2 ⟨v, hv.unsent, hv.read, rfl⟩

/-- FORMAT stores the encoded byte at `cursor`, sets `formatted` and leaves everything else (R116). -/
theorem setFormatted_encodeInPlace_spec (s : State) (v : Byte) :
    setFormatted (encodeInPlace v s) =
      { s with lb := (setFormatted (encodeInPlace v s)).lb, formatted := true } ∧
    (setFormatted (encodeInPlace v s)).lb.read s.cursor.toNat = some (appliedEncoder s v) ∧
    ∀ a, a ≠ s.cursor.toNat → (setFormatted (encodeInPlace v s)).lb.read a = s.lb.read a := by
  refine ⟨rfl, ?_, fun a ha => ?_⟩
  · rw [setFormatted_lb, read_encodeInPlace, if_pos rfl]
  · rw [setFormatted_lb, read_encodeInPlace, if_neg ha]

/-- What a DIRECT_STEP at the byte `v` leaves where the sink is ready, before the end of the line (R126). -/
def directSent (v : Byte) (s : State) : State :=
  toggleHighByte (bumpCursor (emit (appliedEncoder s v) (consumeDraw (encodeInPlace v s))))

theorem Pending.directSend_eq (hv : Pending s v) (hline : s.wr.toNat ≤ (lineBytes s.cfg).toNat) :
    directSend (appliedEncoder s v) (consumeDraw s) = .next (directSent v s) :=
  directSend_next.2 ⟨Nat.lt_of_lt_of_le hv.unsent hline, rfl⟩

theorem directSent_state (v : Byte) (s : State) : (directSent v s).state = s.state := by
  simp [directSent, encodeInPlace]

theorem directSent_lb (v : Byte) (s : State) :
    (directSent v s).lb = s.lb.write s.cursor.toNat (appliedEncoder s v) := by
  simp [directSent, encodeInPlace]

theorem setCtl_self (s : State) : setCtl s.state s = s := rfl

/-- R126: in DRAIN a DIRECT_STEP ends the line with its last byte; nothing else moves `state`. -/
theorem finishLine_directSent (v : Byte) (s : State) :
    (if s.state = .drain then finishLine s (directSent v s) else directSent v s) =
      setCtl (if s.state = .drain ∧ s.cursor.toNat + 1 = s.wr.toNat then .idle else s.state) (directSent v s) := by
  have hkeep := setCtl_self (directSent v s)
  rw [directSent_state] at hkeep
  by_cases hdrain : s.state = .drain
  · rw [hdrain] at hkeep
    simp only [finishLine_eq, hdrain, true_and, if_true]
    split
    · rfl
    · exact hkeep.symm
  · simp [hdrain, hkeep]

/-! ### The enabled internal step (R130) -/

theorem enabledStep_eq_some_iff : enabledStep s = some i ↔ s.fault = 0#4 ∧
    ((i = .cmdStep ∧ s.state = .cmd) ∨ (i = .drainStep ∧ s.state = .drain ∧ s.cfg.mode = .buffered) ∨
     (i = .directStep ∧ s.cfg.mode = .direct ∧ (s.state = .line ∨ s.state = .drain) ∧ s.cursor < s.wr)) := by
  unfold enabledStep
  by_cases hf : s.fault = 0#4
  · cases hstate : s.state <;> cases hmode : s.cfg.mode <;> by_cases hlt : s.cursor < s.wr <;>
      simp [live, hf, hlt, eq_comm]
  · simp [live, hf]

/-- An internal step that is not enabled is not taken (log entry 10). -/
theorem exec_eq_of_not_enabled (hi : i = .cmdStep ∨ i = .drainStep ∨ i = .directStep)
    (hoff : enabledStep s ≠ some i) : exec i s = .next s := by
  rw [Ne, enabledStep_eq_some_iff] at hoff
  rcases hi with rfl | rfl | rfl
  · exact execCmdStep_next.2 (.inl ⟨fun h => hoff (by simp [h]), rfl⟩)
  · exact execDrainStep_next.2 (.inl ⟨fun h => hoff (by simp [h]), rfl⟩)
  · exact execDirectStep_next.2 (.inl ⟨fun h => hoff (by simp [h]), rfl⟩)

theorem firstOfCycle_of_enabledStep (h : enabledStep s = some i) (slot : Bool) :
    firstOfCycle slot s = exec i s := by
  rw [firstOfCycle, h]

/-! ### The state table (R109) -/

theorem execNewframe_fault_of_idle (hf : s.fault = 0#4) (hidle : s.state = .idle) (h : execNewframe s = .next t) :
    t.fault = 0#4 := by
  rcases execNewframe_next.1 h with ⟨hne, -⟩ | ⟨-, hne, -⟩ | ⟨-, -, rfl⟩
  · exact absurd hf hne
  · exact absurd hidle hne
  · exact hf

theorem execLinestart_fault_of_idle (hf : s.fault = 0#4) (hidle : s.state = .idle)
    (h : execLinestart s = .next t) : t.fault = 0#4 := by
  rcases execLinestart_next.1 h with ⟨hne, -⟩ | ⟨-, hne, -⟩ | ⟨-, -, rfl⟩
  · exact absurd hf hne
  · exact absurd hidle hne
  · exact hf

theorem execDebug_fault_of_idle {n : Byte} (hf : s.fault = 0#4) (hidle : s.state = .idle)
    (h : execDebug n s = .next t) : t.fault = 0#4 ∨ t.fault = 6#4 ∨ t.fault = 7#4 := by
  rcases execDebug_next.1 h with ⟨hne, -⟩ | ⟨-, hne, -⟩ | ⟨-, -, -, rfl⟩ | ⟨-, -, -, rfl⟩ | ⟨-, -, -, -, -, rfl⟩ |
    ⟨-, -, -, -, -, rfl⟩
  · exact absurd hf hne
  · exact absurd hidle hne
  · exact .inl hf
  · exact .inr (.inl rfl)
  · exact .inr (.inr rfl)
  · exact .inl hf

theorem execCapture_fault_of_line {b : Byte} (hf : s.fault = 0#4) (hline : s.state = .line)
    (h : execCapture b s = .next t) : t.fault = 0#4 ∨ t.fault = 3#4 ∨ t.fault = 8#4 := by
  rcases execCapture_next.1 h with ⟨hne, -⟩ | ⟨-, hne, -⟩ | ⟨-, -, -, rfl⟩ | ⟨-, -, -, -, rfl⟩ | ⟨-, -, -, -, rfl⟩
  · exact absurd hf hne
  · exact absurd hline hne
  · exact .inr (.inl rfl)
  · exact .inr (.inr rfl)
  · exact .inl hf

theorem execLineend_fault_of_line (hf : s.fault = 0#4) (hline : s.state = .line) (h : execLineend s = .next t) :
    t.fault = 0#4 ∨ t.fault = 4#4 := by
  rcases execLineend_next.1 h with ⟨hne, -⟩ | ⟨-, hne, -⟩ | ⟨-, -, -, rfl⟩ | ⟨-, -, -, -, rfl⟩ | ⟨-, -, -, -, rfl⟩
  · exact absurd hf hne
  · exact absurd hline hne
  · exact .inr rfl
  · exact .inl hf
  · exact .inl hf

theorem execTextwr_fault_of_ne_cmd {a b : Byte} (hf : s.fault = 0#4) (hcmd : s.state ≠ .cmd)
    (h : execTextwr a b s = .next t) : t.fault = 0#4 ∨ t.fault = 5#4 := by
  rcases execTextwr_next.1 h with ⟨hne, -⟩ | ⟨-, hc, -⟩ | ⟨-, -, -, rfl⟩ | ⟨-, -, -, rfl⟩
  · exact absurd hf hne
  · exact absurd hc hcmd
  · exact .inr rfl
  · exact .inl hf

/-! ### The line buffer, entry by entry -/

/-- A capture writes LB at `wr`, and only where it raises no fault. -/
theorem execCapture_lb {b : Byte} (h : execCapture b s = .next t) :
    t.lb = s.lb ∨ t.lb = s.lb.write s.wr.toNat b ∧ t.fault = 0#4 := by
  rcases execCapture_next.1 h with ⟨-, rfl⟩ | ⟨-, -, rfl⟩ | ⟨-, -, -, rfl⟩ | ⟨-, -, -, -, rfl⟩ |
    ⟨hf, -, -, -, rfl⟩
  case inr.inr.inr.inr => exact .inr ⟨rfl, hf⟩
  all_goals exact .inl rfl

/-- A text write stores and marks one entry, and only where it raises no fault. -/
theorem execTextwr_text {a b : Byte} (h : execTextwr a b s = .next t) :
    (t.txt = s.txt ∧ t.txtv = s.txtv) ∨ t = writeText a.toNat b s ∧ a.toNat < 254 ∧ t.fault = 0#4 := by
  rcases execTextwr_next.1 h with ⟨-, rfl⟩ | ⟨-, -, rfl⟩ | ⟨-, -, -, rfl⟩ | ⟨hf, -, ha, rfl⟩
  case inr.inr.inr => exact .inr ⟨rfl, ha, hf⟩
  all_goals exact .inl ⟨rfl, rfl⟩

theorem formatStep_lb (h : formatStep s = .next t) : ∃ w, t.lb = s.lb.write s.cursor.toNat w := by
  obtain ⟨v, -, -, -, rfl⟩ := formatStep_next.1 h
  exact ⟨_, rfl⟩

theorem sendStep_lb (h : sendStep s = .next t) : t.lb = s.lb := by
  obtain ⟨v, -, -, rfl⟩ := sendStep_next.1 h
  rfl

theorem finishLine_lb (before s : State) : (finishLine before s).lb = s.lb := by
  rw [finishLine_eq]
  split <;> rfl

theorem finishLine_formatted (before s : State) : (finishLine before s).formatted = s.formatted := by
  rw [finishLine_eq]
  split <;> rfl

/-- A sub-step writes LB at `cursor` alone; where `formatted` is 1, only DIRECT_STEP writes it. -/
theorem exec_scheduler_lb (hi : i = .slot ∨ i = .drainStep ∨ i = .directStep) (h : exec i s = .next t) :
    t.lb = s.lb ∨ (∃ w, t.lb = s.lb.write s.cursor.toNat w) ∧ (i = .directStep ∨ s.formatted = false) := by
  rcases hi with rfl | rfl | rfl
  · rcases execSlot_next.1 h with ⟨-, rfl⟩ | ⟨-, -, rfl⟩ | ⟨-, -, -, -, hraw, hformat⟩ | ⟨-, -, -, -, -, hattempt⟩
    · exact .inl rfl
    · exact .inl rfl
    · exact .inr ⟨formatStep_lb hformat, .inr hraw⟩
    · rcases attempt_next.1 hattempt with ⟨-, hsend⟩ | ⟨-, rfl⟩
      · exact .inl (sendStep_lb (s := consumeDraw s) hsend)
      · exact .inl rfl
  · rcases execDrainStep_next.1 h with ⟨-, rfl⟩ | ⟨-, -, -, hraw, hformat⟩ | ⟨-, -, -, -, -, rfl⟩ |
      ⟨-, -, -, -, -, u, hsend, rfl⟩
    · exact .inl rfl
    · exact .inr ⟨formatStep_lb hformat, .inr hraw⟩
    · exact .inl rfl
    · exact .inl ((finishLine_lb s u).trans (sendStep_lb (s := consumeDraw s) hsend))
  · rcases execDirectStep_next.1 h with ⟨-, rfl⟩ | ⟨-, -, -, -, raw, -, ⟨-, rfl⟩ | ⟨-, u, hsend, rfl⟩⟩
    · exact .inl rfl
    · exact .inl rfl
    · obtain ⟨-, rfl⟩ := directSend_next.1 hsend
      refine .inr ⟨⟨appliedEncoder s raw, ?_⟩, .inl rfl⟩
      split
      · exact finishLine_lb s _
      · rfl

/-- R126: DIRECT_STEP does not use `formatted`. -/
theorem execDirectStep_formatted (h : execDirectStep s = .next t) : t.formatted = s.formatted := by
  rcases execDirectStep_next.1 h with ⟨-, rfl⟩ | ⟨-, -, -, -, raw, -, ⟨-, rfl⟩ | ⟨-, u, hsend, rfl⟩⟩
  · rfl
  · rfl
  · obtain ⟨-, rfl⟩ := directSend_next.1 hsend
    split
    · exact finishLine_formatted s _
    · rfl

end

/-! ### The obligations -/

/-- Settles O23: an accepted capture is `pushByte`. -/
theorem capturePushesAByte : Obligations.CapturePushesAByte := by
  refine fun b s hf => ⟨rfl, fun hne => ?_, fun hline hfull => ?_, fun hline hroom hmode hlt => ?_,
    fun hline hroom hfree => ?_⟩
  · exact execCapture_next.2 (.inr (.inl ⟨hf, hne, rfl⟩))
  · exact execCapture_next.2 (.inr (.inr (.inl ⟨hf, hline, hfull, rfl⟩)))
  · exact execCapture_next.2 (.inr (.inr (.inr (.inl ⟨hf, hline, hroom, ⟨hmode, hlt⟩, rfl⟩))))
  · have hwr : (pushByte b s).wr.toNat = s.wr.toNat + 1 := LineIndex.toNat_succ hroom
    refine ⟨pushByte b s, execCapture_next.2 ?_, rfl, hwr, readLine_some.2 ⟨?_, ?_⟩, fun a ha => ?_⟩
    · exact .inr (.inr (.inr (.inr ⟨hf, hline, hroom, fun h => hfree h.1 h.2, rfl⟩)))
    · exact Nat.lt_of_lt_of_eq (Nat.lt_succ_self _) hwr.symm
    · rw [read_pushByte, if_pos rfl]
    · rw [read_pushByte, if_neg ha]

/-- Settles O25: no draw is taken but at a SEND. -/
theorem slotTakesOneSubstep : Obligations.SlotTakesOneSubstep := by
  refine fun s hf => ⟨fun hoff => execSlot_next.2 (.inr (.inl ⟨hf, hoff, rfl⟩)), fun v hline hmode hlt hle hread => ?_⟩
  have hv : Pending s v := ⟨.inl hline, hlt, hread⟩
  have hne : s.cursor ≠ s.wr := fun heq => Nat.ne_of_lt hlt (congrArg BitVec.toNat heq)
  refine ⟨fun hraw => ?_, fun hformatted hready => ?_, fun hformatted hready => ?_⟩
  · exact ⟨_, execSlot_next.2 (.inr (.inr (.inl ⟨hf, hline, hmode, hne, hraw, hv.formatStep_eq hle⟩))),
      setFormatted_encodeInPlace_spec s v⟩
  · exact execSlot_next.2 (.inr (.inr (.inr ⟨hf, hline, hmode, hne, hformatted,
      attempt_next.2 (.inl ⟨hready, hv.sendStep_eq⟩)⟩)))
  · exact execSlot_next.2 (.inr (.inr (.inr ⟨hf, hline, hmode, hne, hformatted,
      attempt_next.2 (.inr ⟨hready, rfl⟩)⟩)))

/-- Settles O26: the send is `sendByte`, which ends the line with its last byte. -/
theorem drainStepTakesOneSubstep : Obligations.DrainStepTakesOneSubstep := by
  refine fun s => ⟨fun hoff => execDrainStep_next.2 (.inl ⟨hoff, rfl⟩), fun v hf hdrain hmode hlt hle hread => ?_⟩
  have hv : Pending s v := ⟨.inr hdrain, hlt, hread⟩
  refine ⟨fun hraw => ?_, fun hformatted hready => ?_, fun hformatted hready => ?_⟩
  · exact ⟨_, execDrainStep_next.2 (.inr (.inl ⟨hf, hdrain, hmode, hraw, hv.formatStep_eq hle⟩)),
      setFormatted_encodeInPlace_spec s v⟩
  · refine execDrainStep_next.2 (.inr (.inr (.inr ⟨hf, hdrain, hmode, hformatted, hready, _, hv.sendStep_eq, ?_⟩)))
    rw [← sendByte_of_drain v hdrain]
    simp only [sendByte, setCtl, sentFlags, bumpCursor, emit, consumeDraw, hdrain, true_and]
  · exact execDrainStep_next.2 (.inr (.inr (.inl ⟨hf, hdrain, hmode, hformatted, hready, rfl⟩)))

/-- Settles O27: the send is `directSent`; in DRAIN the line ends with its last byte. -/
theorem directStepFormatsAndSends : Obligations.DirectStepFormatsAndSends := by
  refine fun s => ⟨fun hoff => execDirectStep_next.2 (.inl ⟨hoff, rfl⟩),
    fun v hf hmode hline hlt hle hread => ⟨fun hready => ?_, fun hready => ?_⟩⟩
  · have hv : Pending s v := ⟨hline, hlt, hread⟩
    have hexec : exec .directStep s =
        .next (setCtl (if s.state = .drain ∧ s.cursor.toNat + 1 = s.wr.toNat then .idle else s.state)
          (directSent v s)) := by
      rw [← finishLine_directSent]
      exact execDirectStep_next.2
        (.inr ⟨hf, hmode, hline, hlt, v, hread, .inr ⟨hready, _, hv.directSend_eq hle, rfl⟩⟩)
    refine ⟨_, hexec, ?_, ?_, fun a ha => ?_⟩
    · simp only [setCtl, directSent, toggleHighByte, bumpCursor, emit, consumeDraw, encodeInPlace]
    · rw [setCtl_lb, directSent_lb, Memory.read_write_same]
    · rw [setCtl_lb, directSent_lb, Memory.read_write_other _ _ ha]
  · exact execDirectStep_next.2 (.inr ⟨hf, hmode, hline, hlt, v, hread, .inl ⟨hready, rfl⟩⟩)

/-- Settles O28: in its own states an operation raises no F_PROTOCOL; in every other it raises just that. -/
theorem stateTable : Obligations.StateTable := by
  refine fun s hf => ⟨fun i hi => ⟨fun hne => ?_, fun hidle t h => ?_⟩,
    fun i hi => ⟨fun hne => ?_, fun hline t h => ?_⟩,
    fun a b => ⟨fun hcmd => ?_, fun hcmd t h => ?_⟩, fun t h => ?_, fun t h => ?_, fun hne => ?_⟩
  · rcases hi with rfl | ⟨n, rfl⟩ | rfl
    · exact execNewframe_next.2 (.inr (.inl ⟨hf, hne, rfl⟩))
    · exact execDebug_next.2 (.inr (.inl ⟨hf, hne, rfl⟩))
    · exact execLinestart_next.2 (.inr (.inl ⟨hf, hne, rfl⟩))
  · rcases hi with rfl | ⟨n, rfl⟩ | rfl
    · simp [execNewframe_fault_of_idle hf hidle h]
    · rcases execDebug_fault_of_idle hf hidle h with hc | hc | hc <;> simp [hc]
    · simp [execLinestart_fault_of_idle hf hidle h]
  · rcases hi with ⟨b, rfl⟩ | rfl
    · exact execCapture_next.2 (.inr (.inl ⟨hf, hne, rfl⟩))
    · exact execLineend_next.2 (.inr (.inl ⟨hf, hne, rfl⟩))
  · rcases hi with ⟨b, rfl⟩ | rfl
    · rcases execCapture_fault_of_line hf hline h with hc | hc | hc <;> simp [hc]
    · rcases execLineend_fault_of_line hf hline h with hc | hc <;> simp [hc]
  · exact execTextwr_next.2 (.inr (.inl ⟨hf, hcmd, rfl⟩))
  · rcases execTextwr_fault_of_ne_cmd hf hcmd h with hc | hc <;> simp [hc]
  · rw [next_iff.1 h, hf]
  · rw [execSlot_fault h, hf]
  · exact execSlot_next.2 (.inr (.inl ⟨hf, .inl hne, rfl⟩))

/-- Settles O30: by the enabling conditions, which exclude each other. -/
theorem atMostOneInternalStep : Obligations.AtMostOneInternalStep := by
  refine fun s => ⟨by simp [enabledStep_eq_some_iff], by simp [enabledStep_eq_some_iff],
    by simp [enabledStep_eq_some_iff], fun i hi => ?_, fun i hi hne => ?_, fun p i hi => ?_⟩
  · obtain ⟨-, ⟨hc, -⟩ | ⟨hc, -⟩ | ⟨hc, -⟩⟩ := enabledStep_eq_some_iff.1 hi
    · exact .inl hc
    · exact .inr (.inl hc)
    · exact .inr (.inr hc)
  · exact not_imp_comm.1 (exec_eq_of_not_enabled hi) hne
  · rw [runCycle, firstOfCycle_of_enabledStep hi]

/-- Settles O58: by the frames, and by where the two operations store. -/
theorem memoryWritersFrame : Obligations.MemoryWritersFrame := by
  refine fun a b s t => ⟨fun h => ⟨execCapture_frame h, fun i hi => ?_, fun hf i => ?_⟩,
    fun h => ⟨execTextwr_frame h, fun i hi => ?_, fun hf i => ?_⟩⟩
  · rcases execCapture_lb h with hlb | ⟨hlb, -⟩
    · rw [hlb]
    · rw [hlb, Memory.read_write_other _ _ hi]
  · rw [(execCapture_lb h).resolve_right fun hstored => hf hstored.2]
  · rcases execTextwr_text h with ⟨htxt, hmarks⟩ | ⟨rfl, ha, -⟩
    · exact ⟨by rw [readText, htxt, readText], by rw [textMarked, hmarks, textMarked]⟩
    · exact ⟨by rw [readText_writeText, if_neg hi], by simp [textMarked_writeText s b ha, hi]⟩
  · obtain ⟨htxt, hmarks⟩ := (execTextwr_text h).resolve_right fun hstored => hf hstored.2.2
    exact ⟨by rw [readText, htxt, readText], by rw [textMarked, hmarks, textMarked]⟩

/-- Settles O59: by the common frame, and by where a sub-step stores. -/
theorem schedulerStepsFrame : Obligations.SchedulerStepsFrame := by
  refine fun i s t hi h => ⟨exec_schedulerFrame hi h, fun a ha => ?_, fun hne hformatted a => ?_, ?_, ?_⟩
  · rcases exec_scheduler_lb hi h with hlb | ⟨⟨w, hlb⟩, -⟩
    · rw [hlb]
    · rw [hlb, Memory.read_write_other _ _ ha]
  · rw [(exec_scheduler_lb hi h).resolve_right fun hstored => by simp [hne, hformatted] at hstored]
  · rintro rfl
    exact execSlot_state h
  · rintro rfl
    exact execDirectStep_formatted h

/-- Settles O21: by the word, by definition, and by R67 for the other words of `OPC` 0. -/
theorem nopHasNoEffect : Obligations.NopHasNoEffect :=
  fun _ => ⟨rfl, rfl, fun hf _ hopc hbits => runCode_of_bits19to0 (.inl hopc) hbits hf⟩

/-- Settles O22: the operation by its cases. -/
theorem linestartOpensALine : Obligations.LinestartOpensALine := by
  refine fun s hf => ⟨rfl, fun w hopc hbits => ?_, fun hidle => ?_, fun hne => ?_⟩
  · exact runCode_of_bits19to0 (.inr (.inr (.inl hopc))) hbits hf
  · exact execLinestart_next.2 (.inr (.inr ⟨hf, hidle, rfl⟩))
  · exact execLinestart_next.2 (.inr (.inl ⟨hf, hne, rfl⟩))

/-- Settles O24: the operation by its cases. -/
theorem lineendClosesTheLine : Obligations.LineendClosesTheLine := by
  refine fun s hf => ⟨rfl, fun w hopc hbits => ?_, fun hne => ?_, fun hline hshort => ?_, fun hline hfull hsent => ?_,
    fun hline hfull hunsent => ?_⟩
  · exact runCode_of_bits19to0 (.inr (.inr (.inr hopc))) hbits hf
  · exact execLineend_next.2 (.inr (.inl ⟨hf, hne, rfl⟩))
  · exact execLineend_next.2 (.inr (.inr (.inl ⟨hf, hline, hshort, rfl⟩)))
  · exact execLineend_next.2 (.inr (.inr (.inr (.inl ⟨hf, hline, hfull, hsent, rfl⟩))))
  · exact execLineend_next.2 (.inr (.inr (.inr (.inr ⟨hf, hline, hfull, hunsent, rfl⟩))))

end Sys2Proof.Machine

/-! PROOFS. A line and its bytes (spec/42_scheduler.md R121, R134, R137, R138): how many sub-steps a captured
byte takes, what a whole line puts on the wire, and that the transmit mode does not show in it. -/
namespace Sys2Proof.Machine

section
variable {s t : State} {i : Instr} {is : List Instr}

/-! ### The configuration of a run -/

theorem OutputEffect.cfg (hout : OutputEffect s t) : t.cfg = s.cfg := by
  obtain ⟨hcfg, -⟩ := hout.frame
  exact hcfg

theorem Effect.cfg (heffect : Effect s i t) : t.cfg = s.cfg := by
  cases heffect with
  | output _ _ hout => exact hout.cfg
  | _ => rfl

/-- R20: no operation writes the configuration. -/
theorem BlockInv.runOps_cfg (hs : BlockInv s) (h : runOps is s = .next t) : t.cfg = s.cfg := by
  induction is generalizing s with
  | nil => rw [next_iff.1 h]
  | cons i is ih =>
    obtain ⟨u, hexec, hrun⟩ := runOps_cons_next.1 h
    rw [ih (hs.after_exec hexec) hrun, (exec_effect hs hexec).cfg]

theorem capturedBytes_cons : capturedBytes (i :: is) = (capturedByte i).toList ++ capturedBytes is := by
  cases h : capturedByte i <;> simp [capturedBytes, h]

theorem capturedByte_of_not_input (hi : isInput i = false) : capturedByte i = none := by
  cases i with
  | capture => cases hi
  | _ => rfl

/-! ### What a run calls for depends on its inputs alone (R59, R138) -/

theorem expectedWire_filter_isInput (c : Cfg) (m : Memory) (k : Nat) (is : List Instr) :
    expectedWire c m k (is.filter isInput) = expectedWire c m k is := by
  induction is generalizing m k with
  | nil => rfl
  | cons i is ih =>
    cases hi : isInput i with
    | false => rw [List.filter_cons_of_neg (by simp [hi]), expectedWire_of_not_input hi, ih]
    | true =>
      rw [List.filter_cons_of_pos hi]
      cases i with
      | nop | newframe | textwr | debug | linestart | lineend | capture => simp only [expectedWire, ih]
      | _ => cases hi

/-- The frames and the encoders do not read `MODE`. -/
theorem expectedWire_mode (c : Cfg) (mode : TxMode) (m : Memory) (k : Nat) (is : List Instr) :
    expectedWire { c with mode := mode } m k is = expectedWire c m k is := by
  have hpayload : newFramePayload { c with mode := mode } = newFramePayload c := rfl
  have hencoded (j : Nat) (b : Byte) : encodedAt { c with mode := mode } j b = encodedAt c j b := rfl
  induction is generalizing m k with
  | nil => rfl
  | cons i is ih => cases i <;> simp only [expectedWire, ih, hpayload, hencoded]

/-! ### A whole line (R137) -/

/-- Inside a line the only inputs with bytes for the wire are the captures. -/
theorem expectedWire_of_insideLine {c : Cfg} {m : Memory} {k : Nat} (his : ∀ i ∈ is, insideLine i = true) :
    expectedWire c m k is = (capturedBytes is).mapIdx fun j b => encodedAt c (k + j) b := by
  induction is generalizing m k with
  | nil => rfl
  | cons i is ih =>
    obtain ⟨hi, hrest⟩ := List.forall_mem_cons.1 his
    cases i with
    | newframe | debug | linestart => cases hi
    | capture b =>
      rw [expectedWire, ih hrest, capturedBytes_cons]
      simp [capturedByte, List.mapIdx_cons, Nat.add_assoc, Nat.add_comm 1]
    | _ => exact ih hrest

/-- Slots and internal steps end a line or a command, and move `state` in no other way. -/
theorem OutputEffect.state (hout : OutputEffect s t) :
    t.state = s.state ∨ s.state ≠ .line ∧ t.state = .idle := by
  have hsend (v : Byte) (x : State) : (sendByte v x).state = x.state ∨
      x.state ≠ .line ∧ (sendByte v x).state = .idle := by
    rw [sendByte_state]
    split
    next hlast => exact .inr ⟨by simp [hlast.1], rfl⟩
    next => exact .inl rfl
  cases hout with
  | yielded r => exact .inl rfl
  | stayed => exact .inl rfl
  | retried _ => exact .inl rfl
  | formatted v _ _ _ => exact .inl rfl
  | sent v _ _ _ => exact hsend v s
  | sentDirect v _ _ _ => exact hsend _ (encodeInPlace v s)
  | framed v hcmd _ _ => exact (advanceFrame_state v _).imp id fun hidle => ⟨by simp [hcmd], hidle⟩

/-- The line opened last has `k` captured bytes: it is still being captured, or it is a full one. -/
structure LineHas (k : Nat) (s : State) : Prop where
  count : s.wr.toNat = k
  place : s.state = .line ∨ s.state ≠ .cmd ∧ s.wr = lineBytes s.cfg

theorem OutputEffect.lineHas {k : Nat} (hout : OutputEffect s t) (hs : LineHas k s) : LineHas k t := by
  obtain ⟨hcfg, -, hwr, -⟩ := hout.frame
  refine ⟨hwr ▸ hs.count, ?_⟩
  rw [hcfg, hwr]
  rcases hout.state with hkeep | ⟨hline, hidle⟩
  · exact hkeep ▸ hs.place
  · exact .inr ⟨by simp [hidle], (hs.place.resolve_left hline).2⟩

/-- Each accepted capture of the line counts one byte; nothing else does (R113). -/
theorem Effect.lineHas {k : Nat} (heffect : Effect s i t) (hf : t.fault = 0#4) (hi : insideLine i = true)
    (hs : LineHas k s) : LineHas (k + (capturedByte i).toList.length) t := by
  cases heffect with
  | ignored _ hfault => exact absurd hf hfault
  | raised _ c _ => exact absurd hf c.code_ne_zero
  | nop => exact hs
  | newframe | debugEmpty | debug | linestart => cases hi
  | textwr a b _ _ => exact ⟨hs.count, hs.place⟩
  | capture b hline hroom _ => exact ⟨(LineIndex.toNat_succ hroom).trans (congrArg (· + 1) hs.count), .inl hline⟩
  | lineend _ hfull =>
    refine ⟨hs.count, .inr ⟨?_, hfull⟩⟩
    rw [setCtl_state]
    split <;> nofun
  | output _ hinput hout =>
    rw [capturedByte_of_not_input hinput]
    exact hout.lineHas hs

theorem BlockInv.runOps_lineHas {k : Nat} (hs : BlockInv s) (hline : LineHas k s)
    (his : ∀ i ∈ is, insideLine i = true) (h : runOps is s = .next t) (hf : t.fault = 0#4) :
    LineHas (k + (capturedBytes is).length) t := by
  induction is generalizing s k with
  | nil => exact next_iff.1 h ▸ hline
  | cons i is ih =>
    obtain ⟨u, hexec, hrun⟩ := runOps_cons_next.1 h
    obtain ⟨hi, his⟩ := List.forall_mem_cons.1 his
    have heffect := exec_effect hs hexec
    have hu := heffect.lineHas (runOps_fault_zero hrun hf) hi hline
    rw [capturedBytes_cons, List.length_append, ← Nat.add_assoc]
    exact ih (heffect.blockInv hs) hu his hrun

/-! ### The sub-steps of a byte (R121, R134) -/

/-- The sub-steps that bring captured bytes to the wire in each mode: FORMAT and SEND in a slot or a drain step
(R118, R124), or a DIRECT_STEP (R126). -/
def isSubstep : TxMode → Instr → Bool
  | .buffered, i => i == .slot || i == .drainStep
  | .direct, i => i == .directStep

/-- A FORMAT and a SEND, or one DIRECT_STEP. -/
def substepCost : TxMode → Nat
  | .buffered => 2
  | .direct => 1

/-- The sub-steps the unsent bytes of the line still take at least; a formatted byte has had its FORMAT. -/
def substepsLeft (s : State) : Nat :=
  substepCost s.cfg.mode * (s.wr.toNat - s.cursor.toNat) - s.formatted.toNat

theorem substepsLeft_of_sent (h : s.cursor = s.wr) : substepsLeft s = 0 := by
  simp [substepsLeft, h]

theorem substepsLeft_finishLine (before s : State) : substepsLeft (finishLine before s) = substepsLeft s := by
  rw [finishLine_eq]
  split <;> rfl

theorem formatStep_substepsLeft (h : formatStep s = .next t) :
    substepsLeft s ≤ substepsLeft t + 1 := by
  obtain ⟨v, -, -, -, rfl⟩ := formatStep_next.1 h
  have hleft : substepsLeft (setFormatted (encodeInPlace v s)) =
      substepCost s.cfg.mode * (s.wr.toNat - s.cursor.toNat) - 1 := rfl
  exact (Nat.sub_le _ _).trans (Nat.sub_le_iff_le_add.1 hleft.ge)

theorem sendStep_substepsLeft (hmode : s.cfg.mode = .buffered) (hformatted : s.formatted = true)
    (h : sendStep (consumeDraw s) = .next t) : substepsLeft s ≤ substepsLeft t + 1 := by
  obtain ⟨v, hlt, -, rfl⟩ := sendStep_next.1 h
  have hcursor : (s.cursor + 1#11).toNat = s.cursor.toNat + 1 := LineIndex.toNat_succ hlt
  have hleft : substepsLeft (sentFlags (bumpCursor (emit v (consumeDraw s)))) =
      substepCost s.cfg.mode * (s.wr.toNat - (s.cursor + 1#11).toNat) := rfl
  rw [hleft, hcursor, substepsLeft, hmode, hformatted, substepCost, Bool.toNat_true]
  omega

theorem directSend_substepsLeft {v : Byte} (hmode : s.cfg.mode = .direct) (hlt : s.cursor < s.wr)
    (h : directSend v (consumeDraw s) = .next t) : substepsLeft s ≤ substepsLeft t + 1 := by
  obtain ⟨-, rfl⟩ := directSend_next.1 h
  have hcursor : (s.cursor + 1#11).toNat = s.cursor.toNat + 1 := LineIndex.toNat_succ hlt
  have hleft : substepsLeft (toggleHighByte (bumpCursor (emit v (consumeDraw s)))) =
      substepCost s.cfg.mode * (s.wr.toNat - (s.cursor + 1#11).toNat) - s.formatted.toNat := rfl
  refine Nat.le_trans ?_ (Nat.add_le_add_right hleft.ge 1)
  rw [hcursor, substepsLeft, hmode, substepCost]
  omega

theorem execSlot_substepsLeft (h : execSlot s = .next t) :
    substepsLeft s ≤ substepsLeft t + (isSubstep s.cfg.mode .slot).toNat := by
  rcases execSlot_next.1 h with ⟨-, rfl⟩ | ⟨-, -, rfl⟩ | ⟨-, -, hmode, -, -, hformat⟩ |
    ⟨-, -, hmode, -, hformatted, hattempt⟩
  · exact Nat.le_add_right _ _
  · exact Nat.le_add_right _ _
  · rw [hmode]
    exact formatStep_substepsLeft hformat
  · rcases attempt_next.1 hattempt with ⟨-, hsend⟩ | ⟨-, rfl⟩
    · rw [hmode]
      exact sendStep_substepsLeft hmode hformatted hsend
    · exact Nat.le_add_right _ _

theorem execDrainStep_substepsLeft (h : execDrainStep s = .next t) :
    substepsLeft s ≤ substepsLeft t + (isSubstep s.cfg.mode .drainStep).toNat := by
  rcases execDrainStep_next.1 h with ⟨-, rfl⟩ | ⟨-, -, hmode, -, hformat⟩ | ⟨-, -, -, -, -, rfl⟩ |
    ⟨-, -, hmode, hformatted, -, u, hsend, rfl⟩
  · exact Nat.le_add_right _ _
  · rw [hmode]
    exact formatStep_substepsLeft hformat
  · exact Nat.le_add_right _ _
  · rw [hmode, substepsLeft_finishLine]
    exact sendStep_substepsLeft hmode hformatted hsend

theorem execDirectStep_substepsLeft (h : execDirectStep s = .next t) :
    substepsLeft s ≤ substepsLeft t + (isSubstep s.cfg.mode .directStep).toNat := by
  rcases execDirectStep_next.1 h with ⟨-, rfl⟩ | ⟨-, hmode, -, hlt, raw, -, ⟨-, rfl⟩ | ⟨-, u, hsend, rfl⟩⟩
  · exact Nat.le_add_right _ _
  · exact Nat.le_add_right _ _
  · have hsent := directSend_substepsLeft hmode hlt hsend
    rw [hmode]
    split
    · rwa [substepsLeft_finishLine]
    · exact hsent

/-- Everything but an input or a scheduler's step leaves the line alone. -/
theorem exec_substepsLeft_of_output (hi : isInput i = false) (h : exec i s = .next t) :
    substepsLeft s ≤ substepsLeft t + (isSubstep s.cfg.mode i).toNat := by
  cases i with
  | nop | newframe | textwr | debug | linestart | lineend | capture => cases hi
  | slot => exact execSlot_substepsLeft h
  | drainStep => exact execDrainStep_substepsLeft h
  | directStep => exact execDirectStep_substepsLeft h
  | cmdStep =>
    rw [execCmdStep_frame h]
    exact Nat.le_add_right _ _
  | _ =>
    rw [exec_frame_of_not_operation rfl h]
    exact Nat.le_add_right _ _

/-- A captured byte takes all its sub-steps yet. -/
theorem BlockInv.substepsLeft_pushByte (hs : BlockInv s) (b : Byte) (hroom : s.wr < lineBytes s.cfg) :
    substepsLeft (pushByte b s) = substepCost s.cfg.mode + substepsLeft s := by
  have hwr : (pushByte b s).wr.toNat = s.wr.toNat + 1 := LineIndex.toNat_succ hroom
  have hle := hs.cursor_le_wr
  have hformatted : s.formatted.toNat ≤ substepCost s.cfg.mode * (s.wr.toNat - s.cursor.toNat) := by
    cases hfmt : s.formatted with
    | false => exact Nat.zero_le _
    | true =>
      obtain ⟨hmode, hlt⟩ := hs.formatted_pending hfmt
      simp only [hmode, substepCost, Bool.toNat_true]
      omega
  have hcfg : (pushByte b s).cfg = s.cfg := rfl
  have hflag : (pushByte b s).formatted = s.formatted := rfl
  rw [substepsLeft, substepsLeft, hwr, pushByte_cursor, hcfg, hflag, Nat.succ_sub hle, Nat.mul_succ]
  omega

/-- One operation: what its byte takes is what is left of it and the sub-step it was. -/
theorem BlockInv.exec_substepsLeft (hs : BlockInv s) (h : exec i s = .next t) (hf : t.fault = 0#4) :
    substepCost s.cfg.mode * (capturedByte i).toList.length + substepsLeft s ≤
      substepsLeft t + (isSubstep s.cfg.mode i).toNat := by
  cases exec_effect hs h with
  | ignored _ hfault => exact absurd hf hfault
  | raised _ c _ => exact absurd hf c.code_ne_zero
  | capture b hline hroom _ =>
    rw [hs.substepsLeft_pushByte b hroom]
    exact (Nat.mul_one _).symm ▸ Nat.le_add_right _ _
  | linestart hidle =>
    rw [substepsLeft_of_sent (hs.outside_sent (.inl hidle))]
    exact Nat.zero_le _
  | output _ hinput _ =>
    rw [capturedByte_of_not_input hinput]
    exact (Nat.zero_add _).trans_le (exec_substepsLeft_of_output hinput h)
  | _ => exact (Nat.zero_add _).trans_le (Nat.le_add_right _ _)

/-- The closure of `BlockInv.exec_substepsLeft` over a run. -/
theorem BlockInv.runOps_substepsLeft (hs : BlockInv s) (h : runOps is s = .next t) (hf : t.fault = 0#4) :
    substepCost s.cfg.mode * (capturedBytes is).length + substepsLeft s ≤
      substepsLeft t + is.countP (isSubstep s.cfg.mode) := by
  induction is generalizing s with
  | nil => simp [next_iff.1 h, capturedBytes]
  | cons i is ih =>
    obtain ⟨u, hexec, hrun⟩ := runOps_cons_next.1 h
    have hfirst := hs.exec_substepsLeft hexec (runOps_fault_zero hrun hf)
    have hrest := ih (hs.after_exec hexec) hrun
    rw [(exec_effect hs hexec).cfg] at hrest
    rw [capturedBytes_cons, List.length_append, Nat.mul_add, List.countP_cons]
    rw [Bool.toNat, Bool.cond_eq_ite] at hfirst
    omega

/-- In IDLE every captured byte is sent, so a run between two idle states has taken all the sub-steps of its bytes. -/
theorem BlockInv.runOps_substeps_of_idle (hs : BlockInv s) (hidle : s.state = .idle) (h : runOps is s = .next t)
    (hidle' : t.state = .idle) (hf : t.fault = 0#4) :
    substepCost s.cfg.mode * (capturedBytes is).length ≤ is.countP (isSubstep s.cfg.mode) := by
  have hrun := hs.runOps_substepsLeft h hf
  rwa [substepsLeft_of_sent (hs.outside_sent (.inl hidle)),
    substepsLeft_of_sent ((hs.after_runOps h).outside_sent (.inl hidle')), Nat.add_zero, Nat.zero_add] at hrun

end

/-! ### The obligations -/

/-- Settles O32: by what the unsent bytes of a line still take. -/
theorem substepsPerByte : Obligations.SubstepsPerByte := by
  refine fun is s t hs hidle h hidle' hf => ⟨fun hmode => ?_, fun hmode => ?_⟩
  · have hrun := hs.runOps_substeps_of_idle hidle h hidle' hf
    rwa [hmode] at hrun
  · have hrun := hs.runOps_substeps_of_idle hidle h hidle' hf
    rwa [hmode, substepCost, Nat.one_mul] at hrun

/-- Settles O51: LINESTART opens a line of no bytes, and in IDLE the line is a full one. -/
theorem lineOutput : Obligations.LineOutput := by
  intro is s t hs hidle his h hidle' hf
  have hwire : t.wire = s.wire ++ expectedWire s.cfg s.txt 0 is :=
    runOutputIsWhatTheInputsCallFor (.linestart :: is) s t hs hidle h hidle' hf
  obtain ⟨u, hopen, hrun⟩ := runOps_cons_next.1 h
  have hopened : exec .linestart s = .next (openLine s) :=
    execLinestart_next.2 (.inr (.inr ⟨runOps_fault_zero h hf, hidle, rfl⟩))
  obtain rfl := next_iff.1 (hopened.symm.trans hopen)
  have hline := hs.after_openLine.runOps_lineHas (k := 0) ⟨rfl, .inl rfl⟩ his hrun hf
  refine ⟨?_, ?_⟩
  · have hfull := (hline.place.resolve_left (by simp [hidle'])).2
    rw [← (hs.runOps_cfg h), ← hfull, hline.count, Nat.zero_add]
  · rw [hwire, expectedWire_of_insideLine his]
    simp only [Nat.zero_add]

/-- Settles O52: both runs emit what their inputs call for. -/
theorem modesAreEquivalent : Obligations.ModesAreEquivalent := by
  intro is js s s' t t' hs hs' _ hcfg htxt hidle hidle' hinputs h h' hend hend' hf hf'
  have hwire := runOutputIsWhatTheInputsCallFor is s t hs hidle h hend hf
  have hwire' := runOutputIsWhatTheInputsCallFor js s' t' hs' hidle' h' hend' hf'
  rw [hcfg, htxt, expectedWire_mode, ← expectedWire_filter_isInput, ← hinputs, expectedWire_filter_isInput] at hwire'
  exact ⟨_, hwire, hwire'⟩

end Sys2Proof.Machine

/-! PROOFS. Waiting for the sink (spec/70_reset_and_hazards.md R177, R183, spec/42_scheduler.md R125, R136, R139): with
the sink ready often enough a drain and a command come to their end, with the sink never ready the block stays. -/
namespace Sys2Proof.Machine

/-! ### Steps repeated until a goal is reached -/

/-- A step that brings a waiting state to a goal or nearer to it reaches the goal; from there on it does nothing. -/
theorem runOps_replicate_reaches {i : Instr} {waiting goal : State → Prop} {left : State → Nat}
    (hgoal : ∀ s, goal s → exec i s = .next s) (hleft : ∀ s, waiting s → 0 < left s)
    (hstep : ∀ s, waiting s → ∃ t, exec i s = .next t ∧ (goal t ∨ waiting t ∧ left t < left s))
    {n : Nat} {s : State} (hs : goal s ∨ waiting s ∧ left s ≤ n) :
    ∃ t, runOps (List.replicate n i) s = .next t ∧ goal t := by
  induction n generalizing s with
  | zero =>
    rcases hs with hs | ⟨hs, hn⟩
    · exact ⟨s, rfl, hs⟩
    · exact absurd (hleft s hs) (Nat.not_lt.2 hn)
  | succ n ih =>
    rcases hs with hs | ⟨hs, hn⟩
    · obtain ⟨t, hrun, ht⟩ := ih (.inl hs)
      exact ⟨t, runOps_cons_next.2 ⟨s, hgoal s hs, hrun⟩, ht⟩
    · obtain ⟨u, hexec, hu⟩ := hstep s hs
      obtain ⟨t, hrun, ht⟩ := ih (hu.imp id fun ⟨hw, hlt⟩ => ⟨hw, by omega⟩)
      exact ⟨t, runOps_cons_next.2 ⟨u, hexec, hrun⟩, ht⟩

/-! ### The draws of an attempt -/

section
variable {s t : State} {i : Instr} {n : Nat}

theorem consumeDraw_draws_length (hfair : fairFor (n + 1) s) :
    (consumeDraw s).draws.length + 1 = s.draws.length := by
  rw [consumeDraw_draws, List.length_tail]
  have hcount := Nat.le_trans hfair List.count_le_length
  omega

/-- An attempt takes at most one of the draws that find the sink ready. -/
theorem fairFor_consumeDraw (hfair : fairFor (n + 1) s) : fairFor n (consumeDraw s) := by
  unfold fairFor at hfair ⊢
  rw [consumeDraw_draws]
  cases hdraws : s.draws with
  | nil => simp [hdraws] at hfair
  | cons d l =>
    rw [hdraws, List.count_cons] at hfair
    rw [List.tail_cons]
    split at hfair <;> omega

/-- An attempt that does not find the sink ready takes none of them. -/
theorem fairFor_consumeDraw_of_not_ready (hready : ready s = false) (hfair : fairFor n s) :
    fairFor n (consumeDraw s) := by
  unfold fairFor at hfair ⊢
  rw [consumeDraw_draws]
  cases hdraws : s.draws with
  | nil => simpa [hdraws] using hfair
  | cons d l =>
    have hd : d ≠ .ready := by
      rintro rfl
      cases hready.symm.trans (ready_cons hdraws)
    rw [hdraws, List.count_cons_of_ne hd] at hfair
    exact hfair

/-! ### The drain (R125, R136) -/

/-- The internal step of a drain (R130). -/
def drainingStep : TxMode → Instr
  | .buffered => .drainStep
  | .direct => .directStep

/-- A drain whose sink is ready often enough among the listed draws. -/
structure Draining (mode : TxMode) (s : State) : Prop where
  inv : BlockInv s
  live : s.fault = 0#4
  mode_eq : s.cfg.mode = mode
  drain : s.state = .drain
  fair : fairFor (s.wr.toNat - s.cursor.toNat) s

/-- The drain is over: everything of a full line is sent. -/
structure Drained (s : State) : Prop where
  live : s.fault = 0#4
  idle : s.state = .idle
  full : s.wr = lineBytes s.cfg

/-- Each step of a drain takes a draw, or formats a byte that is still to be sent. -/
def drainLeft (s : State) : Nat := s.draws.length + (s.wr.toNat - s.cursor.toNat) - s.formatted.toNat

theorem finishLine_drawCount (before s : State) : (finishLine before s).drawCount = s.drawCount := by
  rw [finishLine_eq]
  split <;> rfl

/-- An enabled internal step makes a send attempt, or it formats a byte (R102, R124, R126). -/
theorem exec_progress_of_enabledStep (henabled : enabledStep s = some i) (h : exec i s = .next t) :
    t.drawCount = s.drawCount + 1 ∨ s.formatted = false ∧ t.formatted = true := by
  obtain ⟨hf, ⟨rfl, hstep⟩ | ⟨rfl, hstep⟩ | ⟨rfl, hstep⟩⟩ := enabledStep_eq_some_iff.1 henabled
  · rcases execCmdStep_next.1 h with ⟨hoff, -⟩ | ⟨-, -, v, -, ⟨-, rfl⟩ | ⟨-, rfl⟩⟩
    · exact absurd ⟨hf, hstep⟩ hoff
    · exact .inl rfl
    · rw [advanceFrame_eq]
      exact .inl rfl
  · rcases execDrainStep_next.1 h with ⟨hoff, -⟩ | ⟨-, -, -, hraw, hformat⟩ | ⟨-, -, -, -, -, rfl⟩ |
      ⟨-, -, -, -, -, u, hsend, rfl⟩
    · exact absurd ⟨hf, hstep⟩ hoff
    · obtain ⟨v, -, -, -, rfl⟩ := formatStep_next.1 hformat
      exact .inr ⟨hraw, rfl⟩
    · exact .inl rfl
    · obtain ⟨v, -, -, rfl⟩ := sendStep_next.1 hsend
      exact .inl (finishLine_drawCount _ _)
  · rcases execDirectStep_next.1 h with ⟨hoff, -⟩ | ⟨-, -, -, -, raw, -, ⟨-, rfl⟩ | ⟨-, u, hsend, rfl⟩⟩
    · exact absurd ⟨hf, hstep⟩ hoff
    · exact .inl rfl
    · obtain ⟨-, rfl⟩ := directSend_next.1 hsend
      split
      · exact .inl (finishLine_drawCount _ _)
      · exact .inl rfl

variable {mode : TxMode}

theorem Draining.unsent (hs : Draining mode s) : ∃ n, s.wr.toNat - s.cursor.toNat = n + 1 :=
  Nat.exists_eq_add_one.2 (Nat.sub_pos_of_lt (hs.inv.drain_full hs.drain).2)

theorem Draining.draws_pos (hs : Draining mode s) : 0 < s.draws.length := by
  obtain ⟨n, hn⟩ := hs.unsent
  have hlen := consumeDraw_draws_length (hn ▸ hs.fair)
  omega

theorem Draining.drainLeft_pos (hs : Draining mode s) : 0 < drainLeft s := by
  have hdraws := hs.draws_pos
  obtain ⟨n, hn⟩ := hs.unsent
  have hflag := s.formatted.toNat_le
  unfold drainLeft
  omega

theorem Draining.after_retry (hs : Draining mode s) (hready : ready s = false) :
    Draining mode (consumeDraw s) ∧ drainLeft (consumeDraw s) < drainLeft s := by
  refine ⟨⟨hs.inv.after_consumeDraw, hs.live, hs.mode_eq, hs.drain,
    fairFor_consumeDraw_of_not_ready hready hs.fair⟩, ?_⟩
  obtain ⟨n, hn⟩ := hs.unsent
  have hlen := consumeDraw_draws_length (hn ▸ hs.fair)
  have hflag := s.formatted.toNat_le
  simp only [drainLeft, consumeDraw_wr, consumeDraw_cursor, consumeDraw_formatted]
  omega

theorem Draining.after_format (hs : Draining mode s) {v : Byte} (hv : Pending s v) (hmode : s.cfg.mode = .buffered)
    (hraw : s.formatted = false) : Draining mode (setFormatted (encodeInPlace v s)) ∧
      drainLeft (setFormatted (encodeInPlace v s)) < drainLeft s := by
  refine ⟨⟨hs.inv.after_setFormatted_encodeInPlace v hv.unsent hmode hraw, hs.live, hs.mode_eq, hs.drain, hs.fair⟩, ?_⟩
  have hleft : drainLeft (setFormatted (encodeInPlace v s)) =
      s.draws.length + (s.wr.toNat - s.cursor.toNat) - 1 := rfl
  have hdraws := hs.draws_pos
  rw [hleft, drainLeft, hraw, Bool.toNat_false]
  omega

/-- R124, R126: a sent byte ends the drain, or the drain goes on with one byte less. -/
theorem Draining.after_sendByte (hs : Draining mode s) {v : Byte} (hv : Pending s v) (w : Byte) :
    Drained (sendByte w s) ∨ Draining mode (sendByte w s) ∧ drainLeft (sendByte w s) < drainLeft s := by
  have hcursor : (sendByte w s).cursor.toNat = s.cursor.toNat + 1 := LineIndex.toNat_succ hv.unsent
  obtain ⟨n, hn⟩ := hs.unsent
  have hfair : fairFor (n + 1) s := hn ▸ hs.fair
  by_cases hlast : s.cursor.toNat + 1 = s.wr.toNat
  · refine .inl ⟨hs.live, ?_, (hs.inv.drain_full hs.drain).1⟩
    rw [sendByte_state, if_pos ⟨hs.drain, hlast⟩]
  · refine .inr ⟨⟨hs.inv.after_sendByte hv w, hs.live, hs.mode_eq, ?_, ?_⟩, ?_⟩
    · rw [sendByte_state, if_neg fun h => hlast h.2, hs.drain]
    · rw [hcursor, sendByte_wr, Nat.sub_succ, hn]
      exact fairFor_consumeDraw hfair
    · have hlen := consumeDraw_draws_length hfair
      have hflag := s.formatted.toNat_le
      have hleft : drainLeft (sendByte w s) =
          (consumeDraw s).draws.length + (s.wr.toNat - (sendByte w s).cursor.toNat) := rfl
      rw [hleft, hcursor, drainLeft]
      omega

theorem Draining.after_encodeInPlace (hs : Draining mode s) {v : Byte} (hv : Pending s v) (hraw : s.formatted = false) :
    Draining mode (encodeInPlace v s) :=
  ⟨hs.inv.after_encodeInPlace v hv.unsent hraw, hs.live, hs.mode_eq, hs.drain, hs.fair⟩

theorem Draining.enabled (hs : Draining mode s) : enabledStep s = some (drainingStep mode) := by
  have hlt := (hs.inv.drain_full hs.drain).2
  refine enabledStep_eq_some_iff.2 ⟨hs.live, ?_⟩
  cases mode with
  | buffered => exact .inr (.inl ⟨rfl, hs.drain, hs.mode_eq⟩)
  | direct => exact .inr (.inr ⟨rfl, hs.mode_eq, .inr hs.drain, hlt⟩)

/-- An internal step is no input: its effect is that of an output. -/
theorem BlockInv.outputEffect_of_enabledStep (hs : BlockInv s) (henabled : enabledStep s = some i)
    (h : exec i s = .next t) : OutputEffect s t := by
  obtain ⟨-, ⟨rfl, -⟩ | ⟨rfl, -⟩ | ⟨rfl, -⟩⟩ := enabledStep_eq_some_iff.1 henabled
  · exact execCmdStep_effect h
  · exact execDrainStep_effect hs h
  · exact execDirectStep_effect hs h

theorem Draining.step (hs : Draining mode s) : ∃ t, exec (drainingStep mode) s = .next t ∧
    (Drained t ∨ Draining mode t ∧ drainLeft t < drainLeft s) := by
  obtain ⟨t, h⟩ := hs.inv.exec_answers (isOperation_of_enabledStep hs.enabled)
  refine ⟨t, h, ?_⟩
  have hprogress := exec_progress_of_enabledStep hs.enabled h
  cases hs.inv.outputEffect_of_enabledStep hs.enabled h with
  | yielded r => simp at hprogress
  | stayed => simp at hprogress
  | retried hready => exact .inr (hs.after_retry hready)
  | formatted v hv hmode hraw => exact .inr (hs.after_format hv hmode hraw)
  | sent v hv _ _ => exact hs.after_sendByte hv v
  | sentDirect v hv _ hraw => exact (hs.after_encodeInPlace hv hraw).after_sendByte hv.after_encodeInPlace _
  | framed v hcmd _ _ => cases hs.drain.symm.trans hcmd

theorem Drained.stays (hs : Drained s) : exec (drainingStep mode) s = .next s := by
  refine exec_eq_of_not_enabled (by cases mode <;> simp [drainingStep]) fun henabled => ?_
  have hstep := (enabledStep_eq_some_iff.1 henabled).2
  simp [hs.idle] at hstep

/-! ### The command (R102) -/

/-- A command whose sink is ready often enough among the listed draws. -/
structure Emitting (s : State) : Prop where
  inv : BlockInv s
  live : s.fault = 0#4
  cmd : s.state = .cmd
  fair : fairFor (s.clen.toNat + 3 - s.cidx.toNat) s

/-- The command is over. -/
structure Emitted (s : State) : Prop where
  live : s.fault = 0#4
  idle : s.state = .idle

theorem Emitting.left (hs : Emitting s) : ∃ n, s.clen.toNat + 3 - s.cidx.toNat = n + 1 :=
  Nat.exists_eq_add_one.2 (by have := hs.inv.cmd_idx hs.cmd; omega)

theorem Emitting.draws_length (hs : Emitting s) : (consumeDraw s).draws.length < s.draws.length := by
  obtain ⟨n, hn⟩ := hs.left
  have hlen := consumeDraw_draws_length (hn ▸ hs.fair)
  omega

theorem Emitting.after_advanceFrame (hs : Emitting s) {v : Byte} (hv : frameByte s = .ok v) :
    Emitted (advanceFrame v (emit v (consumeDraw s))) ∨ Emitting (advanceFrame v (emit v (consumeDraw s))) := by
  have hinv : BlockInv (advanceFrame v (emit v (consumeDraw s))) :=
    (hs.inv.after_consumeDraw.after_emit v).after_advanceFrame hs.cmd (hs.inv.frame_getElem? hs.cmd hv)
  rcases Nat.lt_or_eq_of_le (hs.inv.cmd_idx hs.cmd) with hlt | hlast
  · obtain ⟨n, hn⟩ := hs.left
    have hfair := fairFor_consumeDraw (hn ▸ hs.fair : fairFor (n + 1) s)
    rw [advanceFrame_of_lt (s := emit v (consumeDraw s)) hlt] at hinv ⊢
    refine .inr ⟨hinv, hs.live, hs.cmd, ?_⟩
    show fairFor (s.clen.toNat + 3 - (s.cidx + 1#9).toNat) (consumeDraw s)
    rw [cidx_toNat_succ hlt, Nat.sub_succ, hn]
    exact hfair
  · rw [advanceFrame_of_last (s := emit v (consumeDraw s)) hlast]
    exact .inl ⟨hs.live, rfl⟩

theorem Emitting.step (hs : Emitting s) : ∃ t, exec .cmdStep s = .next t ∧
    (Emitted t ∨ Emitting t ∧ t.draws.length < s.draws.length) := by
  obtain ⟨v, hv, -⟩ := hs.inv.frameByte_eq hs.cmd
  cases hready : ready s with
  | false =>
    refine ⟨_, execCmdStep_next.2 (.inr ⟨hs.live, hs.cmd, v, hv, .inl ⟨hready, rfl⟩⟩), .inr ⟨?_, hs.draws_length⟩⟩
    exact ⟨hs.inv.after_consumeDraw, hs.live, hs.cmd, fairFor_consumeDraw_of_not_ready hready hs.fair⟩
  | true =>
    refine ⟨_, execCmdStep_next.2 (.inr ⟨hs.live, hs.cmd, v, hv, .inr ⟨hready, rfl⟩⟩), ?_⟩
    refine (hs.after_advanceFrame hv).imp id fun ht => ⟨ht, ?_⟩
    rw [advanceFrame_draws]
    exact hs.draws_length

theorem Emitted.stays (hs : Emitted s) : exec .cmdStep s = .next s :=
  execCmdStep_next.2 (.inl ⟨fun h => by simp [hs.idle] at h, rfl⟩)

/-- R125: steps of the sequencer that end in IDLE have put on the wire what it was owed. -/
theorem BlockInv.wire_of_replicate (hs : BlockInv s) (hi : isInput i = false)
    (h : runOps (List.replicate n i) s = .next t) (hf : t.fault = 0#4) (hidle : t.state = .idle) :
    t.wire = s.wire ++ owed s := by
  have hrun := hs.runOps_wire_owed h hf (k := s.wr.toNat) fun _ => rfl
  rw [← expectedWire_filter_isInput, List.filter_replicate_of_neg (by simp [hi]), owed_of_idle hidle, expectedWire,
    List.append_nil, List.append_nil] at hrun
  exact hrun

end

/-- Settles O53: by the draws that are left, and by what the wire is owed. -/
theorem listedReadyDrawsEndTheWait : Obligations.ListedReadyDrawsEndTheWait := by
  refine ⟨fun s hs hf hdrain hfair i hi => ?_, fun s hs hf hcmd hfair => ?_⟩
  · obtain rfl : i = drainingStep s.cfg.mode := by
      rw [hi]
      cases s.cfg.mode <;> rfl
    obtain ⟨t, hrun, ht⟩ := runOps_replicate_reaches (fun u => Drained.stays)
      (fun u => Draining.drainLeft_pos) (fun u => Draining.step)
      (.inr ⟨⟨hs, hf, rfl, hdrain, hfair⟩, Nat.sub_le _ _⟩)
    have hinv := hs.after_runOps hrun
    have hsent := hinv.outside_sent (.inl ht.idle)
    refine ⟨t, hrun, ht.idle, ht.live, hsent, ht.full, ?_, ?_, ?_⟩
    · by_contra hformatted
      have hlt := (hinv.formatted_pending (by simpa using hformatted)).2
      rw [hsent] at hlt
      exact Nat.lt_irrefl _ hlt
    · rw [hinv.pairing, hsent, ht.full, lineBytes_even hinv.cfg_legal]
      rfl
    · exact hs.wire_of_replicate (by cases s.cfg.mode <;> rfl) hrun ht.live ht.idle
  · obtain ⟨t, hrun, ht⟩ := runOps_replicate_reaches (fun u => Emitted.stays)
      (fun u hu => (Nat.zero_le _).trans_lt hu.draws_length) (fun u => Emitting.step)
      (.inr ⟨⟨hs, hf, hcmd, hfair⟩, Nat.le_refl _⟩)
    exact ⟨t, hrun, ht.idle, ht.live, hs.wire_of_replicate rfl hrun ht.live ht.idle⟩

end Sys2Proof.Machine

/-! PROOFS. A sink that is never ready (spec/42_scheduler.md R139, spec/70_reset_and_hazards.md R183): the block waits
where it is, whatever else happens, or faults; and an idle block that the controller leaves alone stays idle (R182). -/
namespace Sys2Proof.Machine

section
variable {s t u : State} {i : Instr} {w : List Byte}

/-! ### Where the block waits -/

theorem waitsForSink_iff : waitsForSink s = true ↔ s.fault = 0#4 ∧
    (s.state = .cmd ∨ s.state = .drain ∨ s.cfg.mode = .direct ∧ s.state = .line ∧ s.cursor < s.wr) := by
  simp [waitsForSink, live, BitVec.lt_def, or_assoc, and_assoc]

theorem waitsForSink_ne_idle (h : waitsForSink s = true) : s.state ≠ .idle := by
  intro hidle
  simpa [hidle] using (waitsForSink_iff.1 h).2

/-- The block waits where an internal step is enabled (R130, R183). -/
theorem waitsForSink_of_enabledStep (h : enabledStep s = some i) : waitsForSink s = true := by
  obtain ⟨hf, ⟨-, hcmd⟩ | ⟨-, hdrain, -⟩ | ⟨-, hmode, hline | hdrain, hlt⟩⟩ := enabledStep_eq_some_iff.1 h
  · exact waitsForSink_iff.2 ⟨hf, .inl hcmd⟩
  · exact waitsForSink_iff.2 ⟨hf, .inr (.inl hdrain)⟩
  · exact waitsForSink_iff.2 ⟨hf, .inr (.inr ⟨hmode, hline, hlt⟩)⟩
  · exact waitsForSink_iff.2 ⟨hf, .inr (.inl hdrain)⟩

/-- R139: an attempt that does not find the sink ready uses up its draw and nothing else. -/
theorem BlockInv.exec_of_not_ready (hs : BlockInv s) (henabled : enabledStep s = some i) (hready : ready s = false)
    (hsend : i = .drainStep → s.formatted = true) : exec i s = .next (consumeDraw s) := by
  obtain ⟨hf, ⟨rfl, hcmd⟩ | ⟨rfl, hdrain, hmode⟩ | ⟨rfl, hmode, hline, hlt⟩⟩ := enabledStep_eq_some_iff.1 henabled
  · obtain ⟨v, hv, -⟩ := hs.frameByte_eq hcmd
    exact execCmdStep_next.2 (.inr ⟨hf, hcmd, v, hv, .inl ⟨hready, rfl⟩⟩)
  · exact execDrainStep_next.2 (.inr (.inr (.inl ⟨hf, hdrain, hmode, hsend rfl, hready, rfl⟩)))
  · obtain ⟨v, hv⟩ := Option.isSome_iff_exists.1 (hs.line_written _ hlt)
    exact execDirectStep_next.2 (.inr ⟨hf, hmode, hline, hlt, v, hv, .inl ⟨hready, rfl⟩⟩)

/-! ### One operation while the sink is not ready -/

/-- `t` comes after `s`, and if it took an attempt, that attempt did not find the sink ready. -/
def Stalled (s t : State) : Prop := t.drawCount ≠ s.drawCount → ready s = false

/-- The effects of an output operation that are left where the sink is not ready: none of them moves what the block
waits on. -/
theorem OutputEffect.of_stalled (hout : OutputEffect s t) (hstalled : Stalled s t) :
    t.wire = s.wire ∧ waitsForSink t = waitsForSink s := by
  have hnever (hready : ready s = true) (hdraw : t.drawCount = s.drawCount + 1) : False := by
    have := hstalled (by omega)
    simp [hready] at this
  cases hout with
  | yielded r => exact ⟨rfl, rfl⟩
  | stayed => exact ⟨rfl, rfl⟩
  | retried _ => exact ⟨rfl, rfl⟩
  | formatted v _ _ _ => exact ⟨rfl, rfl⟩
  | sent v _ hready _ => exact (hnever hready rfl).elim
  | sentDirect v _ hready _ => exact (hnever hready rfl).elim
  | framed v _ hready _ => exact (hnever hready (by rw [advanceFrame_eq]; rfl)).elim

theorem Effect.wire_of_stalled (heffect : Effect s i t) (hstalled : Stalled s t) : t.wire = s.wire := by
  cases heffect with
  | output _ _ hout => exact (hout.of_stalled hstalled).1
  | _ => rfl

/-- A waiting block faults or waits on: the inputs that would move it are not legal there (R109, R113). -/
theorem Effect.waits_of_stalled (heffect : Effect s i t) (hstalled : Stalled s t) (hs : waitsForSink s = true) :
    t.fault ≠ 0#4 ∨ waitsForSink t = true := by
  have hidle := waitsForSink_ne_idle hs
  obtain ⟨hf, hplace⟩ := waitsForSink_iff.1 hs
  cases heffect with
  | ignored _ hfault => exact .inl hfault
  | raised _ c _ => exact .inl c.code_ne_zero
  | nop => exact .inr hs
  | textwr a b _ _ => exact .inr hs
  | debugEmpty => exact .inr hs
  | newframe h => exact absurd h hidle
  | debug _ h _ _ _ => exact absurd h hidle
  | linestart h => exact absurd h hidle
  | capture b hline _ hfree =>
    refine absurd ?_ hfree
    simp only [hline, reduceCtorEq, false_or, true_and] at hplace
    exact hplace
  | lineend hline _ =>
    simp only [hline, reduceCtorEq, false_or, true_and] at hplace
    have hne : s.cursor ≠ s.wr := fun heq => Nat.ne_of_lt hplace.2 (congrArg BitVec.toNat heq)
    exact .inr (waitsForSink_iff.2 ⟨hf, .inr (.inl (by rw [setCtl_state, if_neg hne]))⟩)
  | output _ _ hout => exact .inr ((hout.of_stalled hstalled).2.trans hs)

/-- An input makes no send attempt. -/
theorem Effect.drawCount_of_input (heffect : Effect s i t) (hi : isInput i = true) : t.drawCount = s.drawCount := by
  cases heffect with
  | output _ hinput _ => cases hinput.symm.trans hi
  | _ => rfl

/-! ### Whole steps while the sink is not ready -/

/-- The block meets its invariant, `w` is on the wire, and it waits for the sink or has faulted. -/
structure Held (w : List Byte) (s : State) : Prop where
  inv : BlockInv s
  wire : s.wire = w
  waits : s.fault ≠ 0#4 ∨ waitsForSink s = true

theorem Held.of_raiseFault (hs : Held w s) (c : Cause) : Held w (raiseFault c s) :=
  ⟨hs.inv.after_raiseFault c, hs.wire, .inl c.code_ne_zero⟩

theorem Held.after_exec (hs : Held w s) (h : exec i s = .next t) (hstalled : Stalled s t) : Held w t := by
  have heffect := exec_effect hs.inv h
  refine ⟨heffect.blockInv hs.inv, (heffect.wire_of_stalled hstalled).trans hs.wire, ?_⟩
  rcases hs.waits with hfault | hwaits
  · rcases exec_keepsOrRaises h with hkeep | ⟨hzero, -⟩
    · exact .inl (hkeep ▸ hfault)
    · exact absurd hzero hfault
  · exact heffect.waits_of_stalled hstalled hwaits

theorem Held.after_runCode (hs : Held w s) {c : Code} (h : runCode c s = .next t) (hstalled : Stalled s t) :
    Held w t := by
  rcases runCode_next h with ⟨i, -, hexec⟩ | ⟨-, -, rfl⟩ | rfl
  · exact hs.after_exec hexec hstalled
  · exact hs.of_raiseFault .illegal
  · exact hs

/-- The control word and the capture of a cycle make no send attempt (R173). -/
theorem BlockInv.secondOfCycle_drawCount (hs : BlockInv s) {p : PortSample} (h : secondOfCycle p s = .next t) :
    t.drawCount = s.drawCount := by
  rcases secondOfCycle_next h with ⟨c, hc, hcode⟩ | ⟨-, rfl⟩ | rfl
  · rcases runCode_next hcode with ⟨i, hdecode, hexec⟩ | ⟨-, -, rfl⟩ | rfl
    · have hi : isInput i = true := by
        rcases hc with hc | hc <;> simp [isInput, decode_space hdecode, hc]
      exact (exec_effect hs hexec).drawCount_of_input hi
    · rfl
    · rfl
  · rfl
  · rfl

theorem Held.after_secondOfCycle (hs : Held w s) {p : PortSample} (h : secondOfCycle p s = .next t) : Held w t := by
  have hstalled : Stalled s t := fun hne => absurd (hs.inv.secondOfCycle_drawCount h) hne
  rcases secondOfCycle_next h with ⟨c, -, hcode⟩ | ⟨-, rfl⟩ | rfl
  · exact hs.after_runCode hcode hstalled
  · exact hs.of_raiseFault .protocol
  · exact hs

theorem Held.after_firstOfCycle (hs : Held w s) {slot : Bool} (h : firstOfCycle slot s = .next t)
    (hstalled : Stalled s t) : Held w t := by
  rcases firstOfCycle_next.1 h with ⟨i, -, hexec⟩ | ⟨-, -, hexec⟩ | ⟨-, -, rfl⟩
  · exact hs.after_exec hexec hstalled
  · exact hs.after_exec hexec hstalled
  · exact hs

theorem Held.after_runCycle (hs : Held w s) {p : PortSample} (h : runCycle p s = .next t) (hstalled : Stalled s t) :
    Held w t := by
  obtain ⟨u, v, hfirst, hsecond, rfl⟩ := runCycle_next.1 h
  have hdraws : v.drawCount = u.drawCount := (hs.inv.after_firstOfCycle hfirst).secondOfCycle_drawCount hsecond
  have hu : Held w u := hs.after_firstOfCycle hfirst fun hne => hstalled fun heq => hne (hdraws.symm.trans heq)
  have hv := hu.after_secondOfCycle hsecond
  exact ⟨hv.inv.after_pclkEdge, hv.wire, hv.waits⟩

theorem Held.after_popInput (hs : Held w s) : Held w (popInput s) := ⟨hs.inv.after_popInput, hs.wire, hs.waits⟩

theorem Held.after_runEvent (hs : Held w s) {e : Event} (he : e ≠ .reset true true) (h : runEvent e s = .next t)
    (hstalled : Stalled s t) : Held w t := by
  cases e with
  | op c => exact hs.after_runCode h hstalled
  | cycle p => exact hs.after_runCycle h hstalled
  | sclk canAccept =>
    obtain rfl := next_iff.1 h
    have hinv := hs.inv.after_sclkEdge canAccept
    rw [sclkEdge_eq] at hinv ⊢
    exact ⟨hinv, hs.wire, hs.waits⟩
  | pclk runs =>
    obtain rfl := next_iff.1 h
    exact ⟨hs.inv.after_setPclk runs, hs.wire, hs.waits⟩
  | reset prst srst =>
    rcases runReset_next.1 h with ⟨rfl, rfl, -, -⟩ | ⟨-, -, rfl⟩
    · exact absurd rfl he
    · exact hs

theorem Held.after_step (hs : Held w s) (he : s.inputs.head? ≠ some (.reset true true)) (h : step s = .next t)
    (hstalled : Stalled s t) : Held w t := by
  obtain ⟨-, ⟨-, -, hcycle⟩ | ⟨-, -, rfl⟩ | ⟨e, l, hin, ⟨-, -, rfl⟩ | ⟨-, hevent⟩⟩⟩ := step_next.1 h
  · exact hs.after_runCycle hcycle hstalled
  · exact hs
  · exact hs.after_popInput
  · exact hs.after_popInput.after_runEvent (fun hreset => he (by rw [hin, hreset, List.head?_cons])) hevent hstalled

theorem Held.of_supplied (hs : Held w s) (hsupplied : Supplied s u) : Held w u := by
  obtain ⟨es, ds, rfl⟩ := hsupplied
  exact ⟨{ hs.inv with }, hs.wire, hs.waits⟩

/-- What a step draws shows in the number of draws. -/
theorem attemptsSend_of_step (h : step s = .next t) : attemptsSend s = true ↔ t.drawCount ≠ s.drawCount := by
  simp [attemptsSend, h]

/-! ### Idle states -/

/-- Only a control word moves the block out of IDLE (R22). -/
theorem exec_idle (hidle : s.state = .idle) (hi : i.space ≠ .ctrl24) (h : exec i s = .next t) :
    t.state = .idle := by
  by_contra hne
  rcases legalTransitions i s t h (fun heq => hne (heq.trans hidle)) with ⟨-, -, rfl | ⟨n, -, rfl⟩⟩ | ⟨hs, -⟩ |
    ⟨-, -, rfl⟩ | ⟨hs, -⟩ | ⟨hs, -⟩ | ⟨hs, -⟩
  · exact hi rfl
  · exact hi rfl
  · cases hidle.symm.trans hs
  · exact hi rfl
  all_goals cases hidle.symm.trans hs

theorem runCode_idle (hidle : s.state = .idle) {c : Code} (hc : c.space ≠ .ctrl24) (h : runCode c s = .next t) :
    t.state = .idle := by
  rcases runCode_next h with ⟨i, hdecode, hexec⟩ | ⟨hctl, -, -⟩ | rfl
  · exact exec_idle hidle (decode_space hdecode ▸ hc) hexec
  · exact absurd hctl hc
  · exact hidle

theorem enabledStep_of_idle (hidle : s.state = .idle) : enabledStep s = none := by
  by_contra hsome
  obtain ⟨i, hi⟩ := Option.ne_none_iff_exists'.1 hsome
  have hstep := (enabledStep_eq_some_iff.1 hi).2
  simp [hidle] at hstep

/-- A cycle without a control word leaves an idle block idle: no internal step is enabled, a slot has no work, a capture
faults. -/
theorem runCycle_idle (hidle : s.state = .idle) {p : PortSample} (hp : p.ctl = none) (h : runCycle p s = .next t) :
    t.state = .idle := by
  obtain ⟨u, v, hfirst, hsecond, rfl⟩ := runCycle_next.1 h
  have hu : u.state = .idle := by
    rcases firstOfCycle_next.1 hfirst with ⟨i, hi, -⟩ | ⟨-, -, hexec⟩ | ⟨-, -, rfl⟩
    · cases (enabledStep_of_idle hidle).symm.trans hi
    · exact exec_idle hidle (by decide) hexec
    · exact hidle
  rw [secondOfCycle, hp] at hsecond
  have hv : v.state = .idle := by
    cases hcap : p.cap with
    | none =>
      rw [hcap] at hsecond
      exact next_iff.1 hsecond ▸ hu
    | some b =>
      rw [hcap] at hsecond
      exact runCode_idle (c := .cap8 b) hu nofun hsecond
  exact hv

theorem runEvent_idle (hidle : s.state = .idle) {e : Event} (he : controllerIssues e = false)
    (h : runEvent e s = .next t) : t.state = .idle := by
  cases e with
  | op c =>
    obtain ⟨hspace, -⟩ : c.space ≠ .ctrl24 ∧ c ≠ .strobe 1#1 := by simpa [controllerIssues] using he
    exact runCode_idle hidle hspace h
  | cycle p =>
    obtain ⟨hctl, -⟩ : p.ctl = none ∧ p.slot = false := by simpa [controllerIssues] using he
    exact runCycle_idle hidle hctl h
  | sclk canAccept =>
    obtain rfl := next_iff.1 h
    rw [sclkEdge_eq]
    exact hidle
  | pclk runs => exact next_iff.1 h ▸ hidle
  | reset prst srst =>
    rcases runReset_next.1 h with ⟨-, -, -, rfl⟩ | ⟨-, -, rfl⟩
    · rfl
    · exact hidle

theorem step_idle (hidle : s.state = .idle) (hsilent : controllerSilent s = true) (h : step s = .next t) :
    t.state = .idle := by
  obtain ⟨-, ⟨-, -, hcycle⟩ | ⟨-, -, rfl⟩ | ⟨e, l, hin, ⟨-, -, rfl⟩ | ⟨-, hevent⟩⟩⟩ := step_next.1 h
  · exact runCycle_idle hidle rfl hcycle
  · exact hidle
  · exact hidle
  · obtain ⟨he, -⟩ : controllerIssues e = false ∧ ∀ x ∈ l, controllerIssues x = false := by
      simpa [controllerSilent, hin] using hsilent
    exact runEvent_idle (s := popInput s) hidle he hevent

end

/-! ### Runs -/

section
variable {r : Nat → State} {n : Nat}

/-- An end (R182) is for good: the block stays in IDLE. -/
theorem EndsWellAt.stays_idle (hend : EndsWellAt r n) (hr : IsRun r) {m : Nat} (hm : n ≤ m) :
    (r m).state = .idle := by
  obtain ⟨-, hidle, hsilent⟩ := hend
  induction m, hm using Nat.le_induction with
  | base => exact hidle
  | succ m hm ih =>
    obtain ⟨t, hstep, es, ds, hsupplied⟩ := hr m
    have ht := step_idle ih (hsilent m hm) hstep
    rw [hsupplied]
    exact ht

/-- R183: a block that waits while no attempt finds the sink ready is held from there on. -/
theorem Held.along_run {w : List Byte} (hs : Held w (r n)) (hr : IsRun r) (hreset : NoResetFrom r n)
    (hstall : ∀ m ≥ n, attemptsSend (r m) = true → ready (r m) = false) {m : Nat} (hm : n ≤ m) : Held w (r m) := by
  induction m, hm using Nat.le_induction with
  | base => exact hs
  | succ m hm ih =>
    obtain ⟨t, hstep, hsupplied⟩ := hr m
    exact (ih.after_step (hreset m hm) hstep fun hdraw =>
      hstall m hm ((attemptsSend_of_step hstep).2 hdraw)).of_supplied hsupplied

theorem Held.not_endedWell {w : List Byte} {s : State} (hs : Held w s) : endedWell s = false := by
  rcases hs.waits with hfault | hwaits
  · simp [endedWell, hfault]
  · simp [endedWell, waitsForSink_ne_idle hwaits]

end

/-- Settles O31: the attempt by the enabled step's cases, the run by what every step of it keeps. -/
theorem stalledSinkHoldsTheBlock : Obligations.StalledSinkHoldsTheBlock := by
  refine ⟨fun s i hs henabled hready hsend => ⟨hs.exec_of_not_ready henabled hready hsend,
    waitsForSink_of_enabledStep henabled⟩, fun r n hr hs hwaits hreset hstall => ?_⟩
  have hheld : Held (r n).wire (r n) := ⟨hs, rfl, .inr hwaits⟩
  refine ⟨?_, fun m hm => ?_⟩
  · rintro ⟨out, k, hend, -⟩
    have hm := hheld.along_run hr hreset hstall (Nat.le_max_left n k)
    rcases hm.waits with hfault | hwaits
    · exact hfault (hend.1 _)
    · exact waitsForSink_ne_idle hwaits (hend.stays_idle hr (Nat.le_max_right n k))
  · have hm := hheld.along_run hr hreset hstall hm
    exact ⟨hm.wire, hm.not_endedWell, hm.waits⟩

end Sys2Proof.Machine

/-! PROOFS. The hand-off (spec/60_exceptions.md R152 to R157): which operations emit, and the bytes on their way through
the clock-domain crossing. -/
namespace Sys2Proof.Machine

/-! ### Emission: the wire output and the hand-off (R154) -/

/-- `t` has what the hand-off's invariant reads of `s`: the wire output, the bytes taken, `txd` and the ring. -/
def SameHandoff (s t : State) : Prop :=
  t = { t with wire := s.wire, taken := s.taken, txd := s.txd, req := s.req, reqSync := s.reqSync, ack := s.ack,
               ackSync := s.ackSync }

/-- A byte is emitted, at an attempt that finds the sink ready (R154). -/
def HandsOff (s t : State) : Prop := ∃ v, ready s = true ∧ SameHandoff (emit v s) t

section
variable {s t : State} {i : Instr}

theorem SameHandoff.outputs (h : SameHandoff s t) : t.wire = s.wire ∧ t.txd = s.txd ∧ t.req = s.req := by
  rw [h]
  exact ⟨rfl, rfl, rfl⟩

theorem exec_sameHandoff_of_input (hi : isInput i = true) (h : exec i s = .next t) : SameHandoff s t := by
  cases i with
  | nop => exact next_iff.1 h ▸ rfl
  | newframe => exact execNewframe_frame h ▸ rfl
  | textwr a b => exact execTextwr_frame h ▸ rfl
  | debug n => exact execDebug_frame h ▸ rfl
  | linestart => exact execLinestart_frame h ▸ rfl
  | lineend => exact execLineend_frame h ▸ rfl
  | capture b => exact execCapture_frame h ▸ rfl
  | _ => cases hi

theorem formatStep_sameHandoff (h : formatStep s = .next t) : SameHandoff s t := by
  obtain ⟨v, -, -, -, rfl⟩ := formatStep_next.1 h
  rfl

theorem sendStep_handsOff (hready : ready s = true) (h : sendStep (consumeDraw s) = .next t) : HandsOff s t := by
  obtain ⟨v, -, -, rfl⟩ := sendStep_next.1 h
  exact ⟨v, hready, rfl⟩

theorem directSend_handsOff {v : Byte} (hready : ready s = true) (h : directSend v (consumeDraw s) = .next t) :
    HandsOff s t := by
  obtain ⟨-, rfl⟩ := directSend_next.1 h
  exact ⟨v, hready, rfl⟩

/-- The end of a line moves `state` alone. -/
theorem HandsOff.after_finishLine {before : State} (h : HandsOff s t) : HandsOff s (finishLine before t) := by
  obtain ⟨v, hready, hsame⟩ := h
  refine ⟨v, hready, ?_⟩
  rw [finishLine_eq]
  split
  · rw [hsame]
    rfl
  · exact hsame

theorem execSlot_handoff (h : execSlot s = .next t) : SameHandoff s t ∨ HandsOff s t := by
  rcases execSlot_next.1 h with ⟨-, rfl⟩ | ⟨-, -, rfl⟩ | ⟨-, -, -, -, -, hformat⟩ | ⟨-, -, -, -, -, hattempt⟩
  · exact .inl rfl
  · exact .inl rfl
  · exact .inl (formatStep_sameHandoff hformat)
  · rcases attempt_next.1 hattempt with ⟨hready, hsend⟩ | ⟨-, rfl⟩
    · exact .inr (sendStep_handsOff hready hsend)
    · exact .inl rfl

theorem execCmdStep_handoff (h : execCmdStep s = .next t) : SameHandoff s t ∨ HandsOff s t := by
  rcases execCmdStep_next.1 h with ⟨-, rfl⟩ | ⟨-, -, v, -, ⟨-, rfl⟩ | ⟨hready, rfl⟩⟩
  · exact .inl rfl
  · exact .inl rfl
  · exact .inr ⟨v, hready, by rw [advanceFrame_eq]; rfl⟩

theorem execDrainStep_handoff (h : execDrainStep s = .next t) : SameHandoff s t ∨ HandsOff s t := by
  rcases execDrainStep_next.1 h with ⟨-, rfl⟩ | ⟨-, -, -, -, hformat⟩ | ⟨-, -, -, -, -, rfl⟩ |
    ⟨-, -, -, -, hready, u, hsend, rfl⟩
  · exact .inl rfl
  · exact .inl (formatStep_sameHandoff hformat)
  · exact .inl rfl
  · exact .inr (sendStep_handsOff hready hsend).after_finishLine

theorem execDirectStep_handoff (h : execDirectStep s = .next t) : SameHandoff s t ∨ HandsOff s t := by
  rcases execDirectStep_next.1 h with ⟨-, rfl⟩ | ⟨-, -, -, -, raw, -, ⟨-, rfl⟩ | ⟨hready, u, hsend, rfl⟩⟩
  · exact .inl rfl
  · exact .inl rfl
  · refine .inr ?_
    split
    · exact (directSend_handsOff hready hsend).after_finishLine
    · exact directSend_handsOff hready hsend

/-- Every operation leaves the hand-off as it is, or is one of the four that send and hands one byte off. -/
theorem exec_handoff (h : exec i s = .next t) : SameHandoff s t ∨
    HandsOff s t ∧ (i = .slot ∨ i = .cmdStep ∨ i = .drainStep ∨ i = .directStep) := by
  cases i with
  | slot => exact (execSlot_handoff h).imp_right fun hemit => ⟨hemit, .inl rfl⟩
  | cmdStep => exact (execCmdStep_handoff h).imp_right fun hemit => ⟨hemit, .inr (.inl rfl)⟩
  | drainStep => exact (execDrainStep_handoff h).imp_right fun hemit => ⟨hemit, .inr (.inr (.inl rfl))⟩
  | directStep => exact (execDirectStep_handoff h).imp_right fun hemit => ⟨hemit, .inr (.inr (.inr rfl))⟩
  | grayscaleFirst | grayscaleSecond | rgbHigh | rgbLow | wireNewframe | wireDebug =>
    exact .inl (exec_frame_of_not_operation rfl h ▸ rfl)
  | _ => exact .inl (exec_sameHandoff_of_input rfl h)

end

/-- Settles O46: by what each operation does to the hand-off. -/
theorem emittedBytesAreHandedOff : Obligations.EmittedBytesAreHandedOff := by
  intro i s t h
  rcases exec_handoff h with hsame | ⟨⟨v, hready, hsame⟩, hi⟩
  · exact .inl hsame.outputs
  · obtain ⟨hwire, htxd, hreq⟩ := hsame.outputs
    exact .inr ⟨v, hwire, htxd, hreq, hready, hi⟩

/-! ### The bits along the ring (10_state.md R40, R41) -/

section
variable {a : Bool} {l m : List Bool}

theorem changes_cons_cons (a b : Bool) (l : List Bool) :
    changes (a :: b :: l) = (if a = b then 0 else 1) + changes (b :: l) := rfl

theorem changes_cons_le_succ (a : Bool) (l : List Bool) : changes (a :: l) ≤ changes l + 1 := by
  cases l with
  | nil => exact Nat.zero_le _
  | cons b l =>
    rw [changes_cons_cons]
    split <;> omega

theorem changes_le_cons (a : Bool) (l : List Bool) : changes l ≤ changes (a :: l) := by
  cases l with
  | nil => exact Nat.zero_le _
  | cons b l => exact Nat.le_add_left _ _

/-- Two lists side by side have the changes of each, and one more where they meet at different bits. -/
theorem changes_append (a b : Bool) (l m : List Bool) : changes (a :: l ++ b :: m) =
    changes (a :: l) + (if l.getLast?.getD a = b then 0 else 1) + changes (b :: m) := by
  induction l generalizing a with
  | nil => exact congrArg (· + _) (Nat.zero_add _).symm
  | cons c l ih =>
    have hc := ih c
    rw [List.cons_append] at hc
    rw [List.cons_append, List.cons_append, changes_cons_cons, hc, changes_cons_cons, List.getLast?_cons,
      Option.getD_some, Nat.add_assoc, Nat.add_assoc, Nat.add_assoc]

/-- The last bit is the first one where the number of changes is even. -/
theorem changes_mod_two (a : Bool) (l : List Bool) :
    changes (a :: l) % 2 = if l.getLast?.getD a = a then 0 else 1 := by
  induction l generalizing a with
  | nil => exact (if_pos rfl).symm
  | cons b l ih =>
    rw [changes_cons_cons, List.getLast?_cons, Option.getD_some, Nat.add_mod, ih b]
    generalize l.getLast?.getD b = x
    revert a b x
    decide

theorem getLast_of_changes_eq_zero (h : changes (a :: l) = 0) : l.getLast?.getD a = a := by
  by_contra hne
  have hodd := changes_mod_two a l
  rw [h, if_neg hne] at hodd
  cases hodd

/-- Leaving out a bit between two others merges two changes at most. -/
theorem changes_cons_le_cons_cons (a b : Bool) (l : List Bool) : changes (a :: l) ≤ changes (a :: b :: l) := by
  cases l with
  | nil => exact Nat.zero_le _
  | cons c l =>
    rw [changes_cons_cons, changes_cons_cons, changes_cons_cons, ← Nat.add_assoc]
    refine Nat.add_le_add_right ?_ _
    revert a b c
    decide

theorem changes_cons_le_of_sublist (a : Bool) (h : l.Sublist m) : changes (a :: l) ≤ changes (a :: m) := by
  induction h generalizing a with
  | slnil => exact Nat.le_refl _
  | cons b _ ih => exact (ih a).trans (changes_cons_le_cons_cons a b _)
  | cons_cons b _ ih => exact Nat.add_le_add_left (ih b) _

/-- A clock edge of a synchroniser brings no new change into it (R41). -/
theorem changes_shiftIn_le (a : Bool) (l m : List Bool) : changes (a :: shiftIn a l ++ m) ≤ changes (a :: l ++ m) :=
  calc changes (a :: (shiftIn a l ++ m))
    _ ≤ changes (a :: (a :: l ++ m)) :=
      changes_cons_le_of_sublist a ((List.take_sublist l.length (a :: l)).append_right m)
    _ = changes (a :: l ++ m) := by rw [List.cons_append, changes_cons_cons, if_pos rfl, Nat.zero_add]

end

/-! ### The invariant of the hand-off, move by move (R153, R155, R157) -/

section
variable {s t : State} {i : Instr}

/-- The changes along the two sides of the crossing, and one where the sink has a byte to take. -/
theorem changes_ring (s : State) : changes (ring s) =
    changes (s.req :: s.reqSync) + (if reqS s = s.ack then 0 else 1) + changes (s.ack :: s.ackSync) :=
  changes_append _ _ _ _

theorem HandoffInv.of_sameHandoff (hs : HandoffInv s) (h : SameHandoff s t) : HandoffInv t := by
  rw [h]
  exact ⟨hs.one_toggle, hs.bytes⟩

/-- R153: where the block sees its own `req` come back in `ack_p`, no toggle is under way. -/
theorem HandoffInv.changes_eq_zero (hs : HandoffInv s) (hready : ackP s = s.req) : changes (ring s) = 0 := by
  have hlast : (s.reqSync ++ s.ack :: s.ackSync).getLast?.getD s.req = ackP s := by
    rw [List.getLast?_append, List.getLast?_cons]
    rfl
  have heven : changes (ring s) % 2 = 0 :=
    (changes_mod_two _ _).trans (if_pos (hlast.trans hready))
  have hone := hs.one_toggle
  omega

/-- R152, R153: a byte emitted where no toggle is under way is the only one handed off and not yet taken. -/
theorem HandoffInv.after_emit (hs : HandoffInv s) (hready : ackP s = s.req) (v : Byte) : HandoffInv (emit v s) := by
  have hzero := hs.changes_eq_zero hready
  have hsides := changes_ring s
  have hseen : reqS s = s.ack := by
    by_contra hne
    rw [if_neg hne] at hsides
    omega
  have hsent : reqS s = s.req := getLast_of_changes_eq_zero (by omega)
  have hreq : s.req = s.ack := hsent.symm.trans hseen
  have hempty : outstanding s = [] := if_pos hreq
  refine ⟨?_, ?_⟩
  · calc changes ((!s.req) :: (s.reqSync ++ s.ack :: s.ackSync))
      _ ≤ changes (s.reqSync ++ s.ack :: s.ackSync) + 1 := changes_cons_le_succ _ _
      _ ≤ changes (ring s) + 1 := Nat.add_le_add_right (changes_le_cons _ _) 1
      _ = 1 := by rw [hzero]
  · have hpending : outstanding (emit v s) = [v] := if_neg (by simp [hreq])
    rw [hpending, emit_wire, hs.bytes, hempty, List.append_nil, emit_taken]

/-- R41: a PCLK edge moves `ack` one stage on. -/
theorem HandoffInv.after_pclkEdge (hs : HandoffInv s) : HandoffInv (pclkEdge s) := by
  have hack := changes_shiftIn_le s.ack s.ackSync []
  rw [List.append_nil, List.append_nil] at hack
  refine ⟨?_, hs.bytes⟩
  calc changes (ring (pclkEdge s))
    _ = changes (s.req :: s.reqSync) + (if reqS s = s.ack then 0 else 1) +
        changes (s.ack :: shiftIn s.ack s.ackSync) := changes_ring _
    _ ≤ changes (ring s) := (Nat.add_le_add_left hack _).trans_eq (changes_ring s).symm
    _ ≤ 1 := hs.one_toggle

/-- R41: an edge of SCLK moves `req` one stage on. -/
theorem changes_ring_sclk_le (s : State) :
    changes (ring { s with reqSync := shiftIn s.req s.reqSync }) ≤ changes (ring s) :=
  changes_shiftIn_le s.req s.reqSync (s.ack :: s.ackSync)

/-- R155: a sink that sees a byte takes the one handed off, and no toggle is left between `req` and `ack`. -/
theorem HandoffInv.after_takeByte (hs : HandoffInv s) (hseen : reqS s ≠ s.ack) : HandoffInv (takeByte s) := by
  have hone := hs.one_toggle
  rw [changes_ring, if_neg hseen] at hone
  have hreq : reqS s = s.req := getLast_of_changes_eq_zero (by omega)
  have hne : s.req ≠ s.ack := hreq ▸ hseen
  have hflip : s.req = !s.ack := Bool.eq_not.2 hne
  refine ⟨?_, ?_⟩
  · have hside : changes ((!s.ack) :: s.ackSync) ≤ changes (s.ack :: s.ackSync) + 1 :=
      (changes_cons_le_succ _ _).trans (Nat.add_le_add_right (changes_le_cons _ _) 1)
    have hmet : reqS (takeByte s) = (takeByte s).ack := hreq.trans hflip
    rw [changes_ring, if_pos hmet]
    simp only [takeByte_req, takeByte_reqSync, takeByte_ack, takeByte_ackSync]
    omega
  · have hpending : outstanding s = [s.txd] := if_neg hne
    have hempty : outstanding (takeByte s) = [] := if_pos hflip
    rw [hempty, takeByte_wire, hs.bytes, hpending, takeByte_taken, List.append_nil]

theorem HandoffInv.after_sclkEdge (hs : HandoffInv s) (canAccept : Bool) : HandoffInv (sclkEdge canAccept s) := by
  have hclocked {u : State} (hu : HandoffInv u) : HandoffInv { u with reqSync := shiftIn u.req u.reqSync } :=
    ⟨(changes_ring_sclk_le u).trans hu.one_toggle, hu.bytes⟩
  unfold sclkEdge
  split
  next htakes =>
    have hseen : reqS s ≠ s.ack := by simpa using (Bool.and_eq_true_iff.1 htakes).2
    exact hclocked (hs.after_takeByte hseen)
  next => exact hclocked hs

/-! ### Whole steps -/

/-- The draw of the next send attempt is the hardware's own value (R42, R153; log entry 3). -/
def DrawsCrossing (s : State) : Prop := s.draws.head? = some .crossing

theorem DrawsCrossing.ackP_of_ready (hs : DrawsCrossing s) (hready : ready s = true) : ackP s = s.req := by
  obtain ⟨l, hl⟩ := List.head?_eq_some_iff.1 hs
  rw [ready_of_crossing hl] at hready
  exact beq_iff_eq.1 hready

theorem HandoffInv.after_exec (hs : HandoffInv s) (hdraw : DrawsCrossing s) (h : exec i s = .next t) :
    HandoffInv t := by
  rcases exec_handoff h with hsame | ⟨⟨v, hready, hsame⟩, -⟩
  · exact hs.of_sameHandoff hsame
  · exact (hs.after_emit (hdraw.ackP_of_ready hready) v).of_sameHandoff hsame

theorem HandoffInv.after_runCode (hs : HandoffInv s) (hdraw : DrawsCrossing s) {c : Code}
    (h : runCode c s = .next t) : HandoffInv t := by
  rcases runCode_next h with ⟨i, -, hexec⟩ | ⟨-, -, rfl⟩ | rfl
  · exact hs.after_exec hdraw hexec
  · exact hs.of_sameHandoff rfl
  · exact hs

/-- The control word and the capture of a cycle send nothing (R173). -/
theorem secondOfCycle_sameHandoff {p : PortSample} (h : secondOfCycle p s = .next t) : SameHandoff s t := by
  rcases secondOfCycle_next h with ⟨c, hc, hcode⟩ | ⟨-, rfl⟩ | rfl
  · rcases runCode_next hcode with ⟨i, hdecode, hexec⟩ | ⟨-, -, rfl⟩ | rfl
    · have hi : isInput i = true := by
        rcases hc with hc | hc <;> simp [isInput, decode_space hdecode, hc]
      exact exec_sameHandoff_of_input hi hexec
    · rfl
    · rfl
  · rfl
  · rfl

/-- A cycle makes one send attempt at most, in its first event. -/
theorem HandoffInv.after_runCycle (hs : HandoffInv s) (hdraw : DrawsCrossing s) {p : PortSample}
    (h : runCycle p s = .next t) : HandoffInv t := by
  obtain ⟨u, v, hfirst, hsecond, rfl⟩ := runCycle_next.1 h
  have hu : HandoffInv u := by
    rcases firstOfCycle_next.1 hfirst with ⟨i, -, hexec⟩ | ⟨-, -, hexec⟩ | ⟨-, -, rfl⟩
    · exact hs.after_exec hdraw hexec
    · exact hs.after_exec hdraw hexec
    · exact hs
  exact (hu.of_sameHandoff (secondOfCycle_sameHandoff hsecond)).after_pclkEdge

theorem HandoffInv.after_runEvent (hs : HandoffInv s) (hdraw : DrawsCrossing s) {e : Event}
    (he : e ≠ .reset true true) (h : runEvent e s = .next t) : HandoffInv t := by
  cases e with
  | op c => exact hs.after_runCode hdraw h
  | cycle p => exact hs.after_runCycle hdraw h
  | sclk canAccept => exact next_iff.1 h ▸ hs.after_sclkEdge canAccept
  | pclk runs => exact next_iff.1 h ▸ hs.of_sameHandoff rfl
  | reset prst srst =>
    rcases runReset_next.1 h with ⟨rfl, rfl, -, -⟩ | ⟨-, -, rfl⟩
    · exact absurd rfl he
    · exact hs

end

/-- Settles O48: a step emits where no toggle is under way, and each edge of a clock moves the one toggle on. -/
theorem handoffInvKeptByEveryStep : Obligations.HandoffInvKeptByEveryStep := by
  intro s t hs hdraw hreset h
  have hpop : HandoffInv (popInput s) := hs.of_sameHandoff rfl
  obtain ⟨-, ⟨-, -, hcycle⟩ | ⟨-, -, rfl⟩ | ⟨e, l, hin, ⟨-, -, rfl⟩ | ⟨-, hevent⟩⟩⟩ := step_next.1 h
  · exact hs.after_runCycle hdraw hcycle
  · exact hs
  · exact hpop
  · exact hpop.after_runEvent hdraw (fun he => hreset (by rw [hin, he, List.head?_cons])) hevent

end Sys2Proof.Machine

/-! PROOFS. Faults, the order inside a cycle, and a stopped PCLK (spec/60_exceptions.md R141 to R145, R151, R158, R162,
spec/70_reset_and_hazards.md R173, R183). -/
namespace Sys2Proof.Machine

/-! ### Raising a fault (R143) -/

section
variable {s t : State} {i : Instr}

theorem Cause.one_le_code (c : Cause) : 1 ≤ c.code.toNat := by
  cases c <;> decide

/-- R144: a cause changes `fault` alone, and only where it was 0. -/
theorem KeepsOrRaises.precise (h : KeepsOrRaises s t) (hchanged : t.fault ≠ s.fault) :
    s.fault = 0#4 ∧ t = { s with fault := t.fault } ∧ 1 ≤ t.fault.toNat ∧ t.fault.toNat ≤ 8 := by
  obtain ⟨hf, c, rfl⟩ := h.resolve_left hchanged
  exact ⟨hf, rfl, c.one_le_code, c.code_toNat_le⟩

theorem collision_of_live (hf : s.fault = 0#4) : collision s = .next (raiseFault .protocol s) :=
  whenLive_next.2 (.inl ⟨hf, rfl⟩)

theorem collision_keepsOrRaises (h : collision s = .next t) : KeepsOrRaises s t := by
  rcases whenLive_next.1 h with ⟨hf, h⟩ | ⟨-, rfl⟩
  · exact .inr ⟨hf, .protocol, next_iff.1 h⟩
  · exact .inl rfl

/-! ### The faulted condition (R145) -/

/-- A faulted block performs no operation; the combinational rows are none of its own (log entries 8, 9). -/
theorem exec_of_faulted (hf : s.fault ≠ 0#4) (hi : isOperation i = true) : exec i s = .next s := by
  cases i with
  | nop => rfl
  | newframe => exact execNewframe_next.2 (.inl ⟨hf, rfl⟩)
  | textwr a b => exact execTextwr_next.2 (.inl ⟨hf, rfl⟩)
  | debug n => exact execDebug_next.2 (.inl ⟨hf, rfl⟩)
  | linestart => exact execLinestart_next.2 (.inl ⟨hf, rfl⟩)
  | lineend => exact execLineend_next.2 (.inl ⟨hf, rfl⟩)
  | capture b => exact execCapture_next.2 (.inl ⟨hf, rfl⟩)
  | slot => exact execSlot_next.2 (.inl ⟨hf, rfl⟩)
  | cmdStep => exact execCmdStep_next.2 (.inl ⟨fun h => hf h.1, rfl⟩)
  | drainStep => exact execDrainStep_next.2 (.inl ⟨fun h => hf h.1, rfl⟩)
  | directStep => exact execDirectStep_next.2 (.inl ⟨fun h => hf h.1, rfl⟩)
  | _ => cases hi

theorem enabledStep_of_faulted (hf : s.fault ≠ 0#4) : enabledStep s = none := by
  by_contra hsome
  obtain ⟨i, hi⟩ := Option.ne_none_iff_exists'.1 hsome
  exact hf (enabledStep_eq_some_iff.1 hi).1

/-- A code that an input port presents: a control word, a capture or the slot strobe (30_encoding.md R64, R68, R69). -/
def IsPortCode (c : Code) : Prop := c.space = .ctrl24 ∨ c.space = .cap8 ∨ c.space = .strobe

theorem isOperation_of_decode {c : Code} (hc : IsPortCode c) (h : decode c = .ok i) : isOperation i = true := by
  rcases hc with hc | hc | hc <;> simp [isOperation, decode_space h, hc]

/-- A faulted block ignores its ports, whatever the bits. -/
theorem runCode_of_faulted (hf : s.fault ≠ 0#4) {c : Code} (hc : IsPortCode c) : runCode c s = .next s := by
  cases hdecode : decode c with
  | ok i => rw [runCode_of_decode hdecode, exec_of_faulted hf (isOperation_of_decode hc hdecode)]
  | error e =>
    rw [runCode, hdecode]
    cases c with
    | ctrl24 w => exact whenLive_next.2 (.inr ⟨hf, rfl⟩)
    | strobe x => rfl
    | cap8 b => cases hdecode
    | encsel | internal | wire => simp [IsPortCode, Code.space] at hc

theorem firstOfCycle_of_faulted (hf : s.fault ≠ 0#4) (slot : Bool) : firstOfCycle slot s = .next s := by
  have hnone := enabledStep_of_faulted hf
  cases slot with
  | false => exact firstOfCycle_next.2 (.inr (.inr ⟨hnone, rfl, rfl⟩))
  | true => exact firstOfCycle_next.2 (.inr (.inl ⟨hnone, rfl, exec_of_faulted hf rfl⟩))

theorem secondOfCycle_of_faulted (hf : s.fault ≠ 0#4) (p : PortSample) : secondOfCycle p s = .next s := by
  unfold secondOfCycle
  split
  · exact whenLive_next.2 (.inr ⟨hf, rfl⟩)
  · exact runCode_of_faulted hf (.inl rfl)
  · exact runCode_of_faulted hf (.inr (.inl rfl))
  · rfl

/-! ### The two events of a cycle (R142, R173) -/

theorem firstOfCycle_of_no_step (h : enabledStep s = none) (slot : Bool) :
    firstOfCycle slot s = if slot then exec .slot s else .next s := by
  rw [firstOfCycle, h]

/-- R173: in a cycle with a capture alone the enabled step comes first, and the capture sees the state it leaves. -/
theorem runCycle_capture {u v : State} {b : Byte} (henabled : enabledStep s = some i) (hstep : exec i s = .next u)
    (hcapture : exec (.capture b) u = .next v) :
    runCycle { ctl := none, cap := some b, slot := false } s = .next (pclkEdge v) :=
  runCycle_next.2 ⟨u, v, (firstOfCycle_of_enabledStep henabled false).trans hstep, hcapture, rfl⟩

/-- R126, R127: in DIRECT mode the one captured byte is sent, and the buffer is free again. -/
theorem BlockInv.execDirectStep_frees (hs : BlockInv s) (hf : s.fault = 0#4) (hline : s.state = .line)
    (hmode : s.cfg.mode = .direct) (hlt : s.cursor < s.wr) (hready : ready s = true) {v : Byte}
    (hread : s.lb.read s.cursor.toNat = some v) :
    ∃ u, exec .directStep s = .next u ∧ u.fault = 0#4 ∧ u.state = .line ∧ u.cfg = s.cfg ∧ u.wr = s.wr ∧
      u.cursor = s.wr ∧ u.wire = s.wire ++ [appliedEncoder s v] := by
  obtain ⟨u, hstep, hu, -, -⟩ :=
    ((directStepFormatsAndSends s).2 v hf hmode (.inl hline) hlt hs.wr_le_line hread).1 hready
  have hnext : s.cursor + 1#11 = s.wr := by
    have hone := hs.direct_one hmode
    have hlt' : s.cursor.toNat < s.wr.toNat := hlt
    exact BitVec.eq_of_toNat_eq (by rw [LineIndex.toNat_succ hlt]; omega)
  refine ⟨u, hstep, ?_⟩
  rw [hu]
  exact ⟨hf, by simp [hline], rfl, rfl, hnext, rfl⟩

/-- R142: the capture of the cycle in which the DIRECT_STEP sends is accepted. -/
theorem BlockInv.runCycle_capture_of_direct (hs : BlockInv s) (b : Byte) (hf : s.fault = 0#4) (hline : s.state = .line)
    (hmode : s.cfg.mode = .direct) (hlt : s.cursor < s.wr) (hroom : s.wr ≠ lineBytes s.cfg) (hready : ready s = true) :
    ∃ t v, s.lb.read s.cursor.toNat = some v ∧ runCycle { ctl := none, cap := some b, slot := false } s = .next t ∧
      t.fault = 0#4 ∧ t.wire = s.wire ++ [appliedEncoder s v] ∧ t.cursor = s.wr ∧ t.wr.toNat = s.wr.toNat + 1 ∧
      readLine t s.wr = some b := by
  obtain ⟨v, hread⟩ := Option.isSome_iff_exists.1 (hs.line_written _ hlt)
  obtain ⟨u, hstep, hfu, hlu, hcfg, hwu, hcu, hwire⟩ := hs.execDirectStep_frees hf hline hmode hlt hready hread
  have hroom : u.wr.toNat < (lineBytes u.cfg).toNat := by
    rw [hcfg, hwu]
    exact Nat.lt_of_le_of_ne hs.wr_le_line fun heq => hroom (BitVec.eq_of_toNat_eq heq)
  have hfree : ¬ u.cursor < u.wr := hcu ▸ hwu ▸ Nat.lt_irrefl _
  obtain ⟨-, -, -, -, haccept⟩ := capturePushesAByte b u hfu
  obtain ⟨t, hcapture, ht, hwr, hreadLine, -⟩ := haccept hlu hroom fun _ => hfree
  have henabled : enabledStep s = some .directStep :=
    enabledStep_eq_some_iff.2 ⟨hf, .inr (.inr ⟨rfl, hmode, .inl hline, hlt⟩)⟩
  rw [hwu] at hwr hreadLine
  have hkept : t.fault = u.fault ∧ t.wire = u.wire ∧ t.cursor = u.cursor := by rw [ht]; exact ⟨rfl, rfl, rfl⟩
  obtain ⟨hft, hwt, hct⟩ := hkept
  exact ⟨pclkEdge t, v, hread, runCycle_capture henabled hstep hcapture, hft.trans hfu, hwt.trans hwire,
    hct.trans hcu, hwr, hreadLine⟩

/-- R142: a capture in CMD faults, and the byte that the CMD_STEP before it sent stays on the wire. -/
theorem BlockInv.runCycle_capture_of_cmd (hs : BlockInv s) (b : Byte) (hf : s.fault = 0#4) (hcmd : s.state = .cmd)
    (hready : ready s = true) :
    ∃ t v, runCycle { ctl := none, cap := some b, slot := false } s = .next t ∧ t.fault = 2#4 ∧
      t.wire = s.wire ++ [v] ∧ (frameOf (commandPayload s))[s.cidx.toNat]? = some v := by
  obtain ⟨v, hbyte, hv⟩ := hs.frameByte_eq hcmd
  have hstep : exec .cmdStep s = .next (advanceFrame v (emit v (consumeDraw s))) :=
    execCmdStep_next.2 (.inr ⟨hf, hcmd, v, hbyte, .inr ⟨hready, rfl⟩⟩)
  have hne : (advanceFrame v (emit v (consumeDraw s))).state ≠ .line := by
    rcases advanceFrame_state v (emit v (consumeDraw s)) with h | h <;> simp [h, hcmd]
  have hcapture : exec (.capture b) (advanceFrame v (emit v (consumeDraw s))) =
      .next (raiseFault .protocol (advanceFrame v (emit v (consumeDraw s)))) :=
    execCapture_next.2 (.inr (.inl ⟨(advanceFrame_fault v _).trans hf, hne, rfl⟩))
  have henabled : enabledStep s = some .cmdStep := enabledStep_eq_some_iff.2 ⟨hf, .inl ⟨rfl, hcmd⟩⟩
  exact ⟨_, v, runCycle_capture henabled hstep hcapture, rfl, advanceFrame_wire v _, hv⟩

/-! ### PCLK stopped (R151, R162) -/

/-- While PCLK is stopped a step touches the environment's lists, the SCLK side and the model's result field alone. -/
theorem step_frame_of_stopped (hstop : s.pclkRuns = false) (h : step s = .next t) :
    t = { s with inputs := t.inputs, pclkRuns := t.pclkRuns, ack := t.ack, reqSync := t.reqSync, taken := t.taken,
                 result := t.result } := by
  obtain ⟨-, ⟨-, hruns, -⟩ | ⟨-, -, rfl⟩ | ⟨e, l, -, ⟨-, -, rfl⟩ | ⟨hclk, hevent⟩⟩⟩ := step_next.1 h
  · cases hstop.symm.trans hruns
  · rfl
  · rfl
  · have hfree : needsPclk e ≠ true := fun hneeds => by cases hstop.symm.trans (hclk hneeds)
    cases e with
    | op c =>
      rcases runCode_next hevent with ⟨i, hdecode, hexec⟩ | ⟨hctl, -, -⟩ | rfl
      · have hi : isOperation i = false := by
          rw [isOperation, decode_space hdecode]
          exact Bool.eq_false_iff.2 hfree
        rw [exec_frame_of_not_operation hi hexec]
        rfl
      · exact absurd (by rw [needsPclk, hctl]; rfl) hfree
      · rfl
    | cycle p => exact absurd rfl hfree
    | sclk canAccept =>
      obtain rfl := next_iff.1 hevent
      rw [sclkEdge_eq]
      rfl
    | pclk runs =>
      obtain rfl := next_iff.1 hevent
      rfl
    | reset prst srst =>
      rcases runReset_next.1 hevent with ⟨-, -, hruns, -⟩ | ⟨-, -, rfl⟩
      · cases hstop.symm.trans hruns
      · rfl

end

/-! ### The obligations -/

/-- Settles O33: by R143 for operations, codes and collisions. -/
theorem faultEntryIsPrecise : Obligations.FaultEntryIsPrecise := by
  rintro s t hchanged (⟨i, h⟩ | ⟨w, h⟩ | h)
  · exact (exec_keepsOrRaises h).precise hchanged
  · exact (runCode_keepsOrRaises h).precise hchanged
  · exact (collision_keepsOrRaises h).precise hchanged

/-- Settles O34: clause by clause, by what a faulted block does with each event. -/
theorem faultedBlockIgnoresEverything : Obligations.FaultedBlockIgnoresEverything := by
  refine fun s hf => ⟨enabledStep_of_faulted hf, fun i => exec_of_faulted hf, fun w => runCode_of_faulted hf (.inl rfl),
    fun b => runCode_of_faulted hf (.inr (.inl rfl)), fun x => runCode_of_faulted hf (.inr (.inr rfl)), fun p => ?_,
    fun hseen => ?_, by simp [endedWell, hf]⟩
  · exact runCycle_next.2 ⟨s, s, firstOfCycle_of_faulted hf p.slot, secondOfCycle_of_faulted hf p, rfl⟩
  · simp [sclkEdge_eq, hseen]

/-- Settles O36: the collision by R173's order, the words by R67, the operations by their cases. -/
theorem faultPriority : Obligations.FaultPriority := by
  refine ⟨fun p w b s u hctl hcap hfirst hf => ?_, fun w e s => runCode_of_illegal, fun s hf => ⟨fun a b hcmd => ?_,
    fun n hne => ?_, fun b hne => ?_, fun hne => ?_⟩, fun s hf hidle _ => ?_, fun b s hf hline hfull _ _ => ?_⟩
  · exact runCycle_next.2 ⟨u, _, hfirst, by rw [secondOfCycle, hctl, hcap]; exact collision_of_live hf, rfl⟩
  · exact execTextwr_next.2 (.inr (.inl ⟨hf, hcmd, rfl⟩))
  · exact execDebug_next.2 (.inr (.inl ⟨hf, hne, rfl⟩))
  · exact execCapture_next.2 (.inr (.inl ⟨hf, hne, rfl⟩))
  · exact execLineend_next.2 (.inr (.inl ⟨hf, hne, rfl⟩))
  · exact execDebug_next.2 (.inr (.inr (.inr (.inl ⟨hf, hidle, by decide, rfl⟩))))
  · exact execCapture_next.2 (.inr (.inr (.inl ⟨hf, hline, hfull, rfl⟩)))

/-- Settles O37: the order by the definition of a cycle, the two cases by the step and the capture each performs. -/
theorem orderInsideACycle : Obligations.OrderInsideACycle := by
  refine ⟨fun p s => ⟨fun i hi => ?_, fun hnone hslot => ?_, fun hnone hslot => ?_⟩,
    fun b s hs => hs.runCycle_capture_of_direct b, fun b s hs => hs.runCycle_capture_of_cmd b⟩
  · rw [runCycle, firstOfCycle_of_enabledStep hi]
  · rw [runCycle, firstOfCycle_of_no_step hnone, if_pos hslot]
  · rw [runCycle, firstOfCycle_of_no_step hnone, if_neg (by simp [hslot]), andThen_next_left]

/-- Settles O40: the moves one by one, any step by its frame, and a run by induction on its steps. -/
theorem stoppedPclkFreezesTheBlock : Obligations.StoppedPclkFreezesTheBlock := by
  refine ⟨fun s hlegal hstop => ⟨fun hin => ?_, fun e l hin hneeds => ?_, fun a l hin => ?_, fun b l hin => ?_⟩,
    fun s t => step_frame_of_stopped, fun r n hr hstop m hm => ?_⟩
  · exact step_next.2 ⟨hlegal, .inr (.inl ⟨hin, hstop, rfl⟩)⟩
  · exact step_next.2 ⟨hlegal, .inr (.inr ⟨e, l, hin, .inl ⟨hneeds, hstop, by rw [popInput, hin]; rfl⟩⟩)⟩
  · exact step_cons hlegal hin nofun
  · exact step_cons hlegal hin nofun
  · induction m, hm using Nat.le_induction with
    | base => rfl
    | succ m hm ih =>
      obtain ⟨t, hstep, es, ds, hsupplied⟩ := hr m
      have hruns : t.pclkRuns = (r m).pclkRuns := by
        have hnext := hstop (m + 1) (Nat.le_succ_of_le hm)
        rw [hsupplied] at hnext
        exact hnext.trans (hstop m hm).symm
      have ht := step_frame_of_stopped (hstop m hm) hstep
      rw [hruns, ih] at ht
      rw [hsupplied, ht]

/-- Settles O42: `st_state` by the four values of `state`, the rest by definition. -/
theorem statusPortShowsTheState : Obligations.StatusPortShowsTheState := by
  refine fun s => ⟨?_, rfl, rfl, rfl, rfl, rfl⟩
  rw [statusPort]
  cases s.state <;> rfl

end Sys2Proof.Machine

/-! PROOFS. Reset (spec/70_reset_and_hazards.md R165 to R167): the values it establishes, the invariants among them, and
the reset that one clock domain alone sees. -/
namespace Sys2Proof.Machine

theorem reset_eq_resetBlock : State.reset = resetBlock State.reset := rfl

/-- R165: the reset of both domains is answered by `resetBlock`. -/
theorem runEvent_reset_next {s t : State} (h : runEvent (.reset true true) s = .next t) : t = resetBlock s := by
  rcases runReset_next.1 h with ⟨-, -, -, ht⟩ | ⟨hfalse, -, -⟩
  · exact ht
  · cases hfalse

/-- Settles O43: the state after reset is one of those that the reset of both domains leaves. -/
theorem invariantsAtReset : Obligations.InvariantsAtReset :=
  ⟨reset_eq_resetBlock ▸ blockInv_resetBlock (by decide), ⟨by decide, rfl⟩⟩

/-- Settles O38: field by field; what the memories and the synchroniser hold is nothing and zeros. -/
theorem resetEstablishes : Obligations.ResetEstablishes := by
  intro s t h
  have ht : t = resetBlock s := by
    rcases h with ⟨rfl, rfl⟩ | h
    · exact reset_eq_resetBlock
    · exact runEvent_reset_next h
  subst ht
  exact ⟨rfl, rfl, rfl, rfl, rfl, rfl, rfl, rfl, rfl, rfl, fun _ => BitVec.getLsbD_zero, rfl,
    fun _ => List.eq_of_mem_replicate, fun _ => rfl, fun _ => rfl, rfl, rfl⟩

/-- Settles O39: by the two answers of `runReset`; in IDLE nothing is owed. -/
theorem resetOfBothDomains : Obligations.ResetOfBothDomains := by
  refine fun s => ⟨fun hruns => ⟨resetBlock s, runReset_next.2 (.inl ⟨rfl, rfl, hruns, rfl⟩), rfl,
    fun _ => List.eq_of_mem_replicate, List.length_replicate, List.length_replicate, rfl, owed_of_idle rfl⟩,
    rfl, rfl, fun hstop => ?_⟩
  simp [runEvent, runReset, hstop]

end Sys2Proof.Machine

/-! PROOFS. Send attempts and ends of run (spec/70_reset_and_hazards.md R177, R182, R183, spec/42_scheduler.md R139): a
step makes one send attempt at most, and an idle block makes none. -/
namespace Sys2Proof.Machine

/-! ### The send attempt of a step -/

/-- What happens on the wire between two states: no attempt, one that does not find the sink ready, or one that sends a
byte. An idle block makes none. -/
inductive WireStep (s t : State) : Prop
  | quiet (hdraws : t.drawCount = s.drawCount) (hwire : t.wire = s.wire)
  | retried (hbusy : s.state ≠ .idle) (hready : ready s = false) (hdraws : t.drawCount = s.drawCount + 1)
      (hwire : t.wire = s.wire)
  | sent (hbusy : s.state ≠ .idle) (hready : ready s = true) (hdraws : t.drawCount = s.drawCount + 1) (v : Byte)
      (hwire : t.wire = s.wire ++ [v])

section
variable {s t u : State} {i : Instr}

theorem WireStep.refl (s : State) : WireStep s s := .quiet rfl rfl

/-- What follows the attempt shows neither in the draws nor on the wire. -/
theorem WireStep.then_quiet (h : WireStep s t) (hdraws : u.drawCount = t.drawCount) (hwire : u.wire = t.wire) :
    WireStep s u := by
  cases h with
  | quiet hd hw => exact .quiet (hdraws.trans hd) (hwire.trans hw)
  | retried hbusy hready hd hw => exact .retried hbusy hready (hdraws.trans hd) (hwire.trans hw)
  | sent hbusy hready hd v hw => exact .sent hbusy hready (hdraws.trans hd) v (hwire.trans hw)

theorem WireStep.drawCount_le (h : WireStep s t) : s.drawCount ≤ t.drawCount := by
  cases h with
  | quiet hdraws _ => exact Nat.le_of_eq hdraws.symm
  | retried _ _ hdraws _ => exact hdraws ▸ Nat.le_succ _
  | sent _ _ hdraws _ _ => exact hdraws ▸ Nat.le_succ _

/-- R18: the wire output only grows. -/
theorem WireStep.wire_prefix (h : WireStep s t) : s.wire <+: t.wire := by
  cases h with
  | quiet _ hwire => exact hwire ▸ List.prefix_refl _
  | retried _ _ _ hwire => exact hwire ▸ List.prefix_refl _
  | sent _ _ _ v hwire => exact hwire ▸ List.prefix_append _ _

theorem WireStep.of_idle (h : WireStep s t) (hidle : s.state = .idle) :
    t.drawCount = s.drawCount ∧ t.wire = s.wire := by
  cases h with
  | quiet hdraws hwire => exact ⟨hdraws, hwire⟩
  | retried hbusy _ _ _ => exact absurd hidle hbusy
  | sent hbusy _ _ _ _ => exact absurd hidle hbusy

/-- R139, R154: an attempt sends one byte exactly where it finds the sink ready. -/
theorem WireStep.wire_length (h : WireStep s t) (hdraws : t.drawCount ≠ s.drawCount) :
    t.wire.length = s.wire.length + (if ready s = true then 1 else 0) := by
  cases h with
  | quiet hkept _ => exact absurd hkept hdraws
  | retried _ hready _ hwire => simp [hready, hwire]
  | sent _ hready _ v hwire => simp [hready, hwire]

/-! ### The attempt of each operation -/

theorem formatStep_wireStep (h : formatStep s = .next t) : WireStep s t := by
  obtain ⟨v, -, -, -, rfl⟩ := formatStep_next.1 h
  exact .quiet rfl rfl

theorem sendStep_wireStep (hbusy : s.state ≠ .idle) (hready : ready s = true) (h : sendStep (consumeDraw s) = .next t) :
    WireStep s t := by
  obtain ⟨v, -, -, rfl⟩ := sendStep_next.1 h
  exact .sent hbusy hready rfl v rfl

theorem directSend_wireStep {v : Byte} (hbusy : s.state ≠ .idle) (hready : ready s = true)
    (h : directSend v (consumeDraw s) = .next t) : WireStep s t := by
  obtain ⟨-, rfl⟩ := directSend_next.1 h
  exact .sent hbusy hready rfl v rfl

theorem WireStep.after_finishLine (h : WireStep s t) (before : State) : WireStep s (finishLine before t) := by
  refine h.then_quiet (finishLine_drawCount before t) ?_
  rw [finishLine_eq]
  split <;> rfl

theorem execSlot_wireStep (h : execSlot s = .next t) : WireStep s t := by
  rcases execSlot_next.1 h with ⟨-, rfl⟩ | ⟨-, -, rfl⟩ | ⟨-, -, -, -, -, hformat⟩ | ⟨-, hline, -, -, -, hattempt⟩
  · exact .refl _
  · exact .refl _
  · exact formatStep_wireStep hformat
  · have hbusy : s.state ≠ .idle := by simp [hline]
    rcases attempt_next.1 hattempt with ⟨hready, hsend⟩ | ⟨hready, rfl⟩
    · exact sendStep_wireStep hbusy hready hsend
    · exact .retried hbusy hready rfl rfl

theorem execCmdStep_wireStep (h : execCmdStep s = .next t) : WireStep s t := by
  rcases execCmdStep_next.1 h with ⟨-, rfl⟩ | ⟨-, hcmd, v, -, hattempt⟩
  · exact .refl _
  · have hbusy : s.state ≠ .idle := by simp [hcmd]
    rcases hattempt with ⟨hready, rfl⟩ | ⟨hready, rfl⟩
    · exact .retried hbusy hready rfl rfl
    · rw [advanceFrame_eq]
      exact .sent hbusy hready rfl v rfl

theorem execDrainStep_wireStep (h : execDrainStep s = .next t) : WireStep s t := by
  rcases execDrainStep_next.1 h with ⟨-, rfl⟩ | ⟨-, -, -, -, hformat⟩ | ⟨-, hdrain, -, -, hready, rfl⟩ |
    ⟨-, hdrain, -, -, hready, u, hsend, rfl⟩
  · exact .refl _
  · exact formatStep_wireStep hformat
  · exact .retried (by simp [hdrain]) hready rfl rfl
  · exact (sendStep_wireStep (by simp [hdrain]) hready hsend).after_finishLine s

theorem execDirectStep_wireStep (h : execDirectStep s = .next t) : WireStep s t := by
  rcases execDirectStep_next.1 h with ⟨-, rfl⟩ | ⟨-, -, hline, -, raw, -, hattempt⟩
  · exact .refl _
  · have hbusy : s.state ≠ .idle := by rcases hline with h | h <;> simp [h]
    rcases hattempt with ⟨hready, rfl⟩ | ⟨hready, u, hsend, rfl⟩
    · exact .retried hbusy hready rfl rfl
    · have hsent := directSend_wireStep hbusy hready hsend
      split
      · exact hsent.after_finishLine s
      · exact hsent

/-- Inputs make no attempt, in whatever state the block is. -/
theorem exec_quiet_of_input (hi : isInput i = true) (h : exec i s = .next t) :
    t.drawCount = s.drawCount ∧ t.wire = s.wire := by
  cases i with
  | nop => exact next_iff.1 h ▸ ⟨rfl, rfl⟩
  | newframe => exact execNewframe_frame h ▸ ⟨rfl, rfl⟩
  | textwr a b => exact execTextwr_frame h ▸ ⟨rfl, rfl⟩
  | debug n => exact execDebug_frame h ▸ ⟨rfl, rfl⟩
  | linestart => exact execLinestart_frame h ▸ ⟨rfl, rfl⟩
  | lineend => exact execLineend_frame h ▸ ⟨rfl, rfl⟩
  | capture b => exact execCapture_frame h ▸ ⟨rfl, rfl⟩
  | _ => cases hi

theorem exec_wireStep (h : exec i s = .next t) : WireStep s t := by
  cases i with
  | slot => exact execSlot_wireStep h
  | cmdStep => exact execCmdStep_wireStep h
  | drainStep => exact execDrainStep_wireStep h
  | directStep => exact execDirectStep_wireStep h
  | grayscaleFirst | grayscaleSecond | rgbHigh | rgbLow | wireNewframe | wireDebug =>
    exact exec_frame_of_not_operation rfl h ▸ .quiet rfl rfl
  | _ =>
    obtain ⟨hdraws, hwire⟩ := exec_quiet_of_input rfl h
    exact .quiet hdraws hwire

/-! ### The attempt of a whole step -/

theorem runCode_wireStep {c : Code} (h : runCode c s = .next t) : WireStep s t := by
  rcases runCode_next h with ⟨i, -, hexec⟩ | ⟨-, -, rfl⟩ | rfl
  · exact exec_wireStep hexec
  · exact .quiet rfl rfl
  · exact .refl _

theorem firstOfCycle_wireStep {slot : Bool} (h : firstOfCycle slot s = .next t) : WireStep s t := by
  rcases firstOfCycle_next.1 h with ⟨i, -, hexec⟩ | ⟨-, -, hexec⟩ | ⟨-, -, rfl⟩
  · exact exec_wireStep hexec
  · exact exec_wireStep hexec
  · exact .refl _

/-- The second event of a cycle performs an input, raises a cause or does nothing (R67, R68, R70). -/
theorem secondOfCycle_input {p : PortSample} (h : secondOfCycle p s = .next t) :
    (∃ i, isInput i = true ∧ exec i s = .next t) ∨ (∃ c, t = raiseFault c s) ∨ t = s := by
  rcases secondOfCycle_next h with ⟨c, hc, hcode⟩ | ⟨-, ht⟩ | ht
  · rcases runCode_next hcode with ⟨i, hdecode, hexec⟩ | ⟨-, -, ht⟩ | ht
    · exact .inl ⟨i, by rcases hc with hc | hc <;> simp [isInput, decode_space hdecode, hc], hexec⟩
    · exact .inr (.inl ⟨_, ht⟩)
    · exact .inr (.inr ht)
  · exact .inr (.inl ⟨_, ht⟩)
  · exact .inr (.inr ht)

theorem secondOfCycle_quiet {p : PortSample} (h : secondOfCycle p s = .next t) :
    t.drawCount = s.drawCount ∧ t.wire = s.wire := by
  rcases secondOfCycle_input h with ⟨i, hi, hexec⟩ | ⟨c, rfl⟩ | rfl
  · exact exec_quiet_of_input hi hexec
  · exact ⟨rfl, rfl⟩
  · exact ⟨rfl, rfl⟩

/-- The attempt of a cycle is that of its first event (R173). -/
theorem runCycle_wireStep {p : PortSample} (h : runCycle p s = .next t) : WireStep s t := by
  obtain ⟨u, v, hfirst, hsecond, rfl⟩ := runCycle_next.1 h
  obtain ⟨hdraws, hwire⟩ := secondOfCycle_quiet hsecond
  exact (firstOfCycle_wireStep hfirst).then_quiet hdraws hwire

theorem runEvent_wireStep {e : Event} (h : runEvent e s = .next t) : WireStep s t := by
  cases e with
  | op c => exact runCode_wireStep h
  | cycle p => exact runCycle_wireStep h
  | sclk canAccept =>
    obtain rfl := next_iff.1 h
    rw [sclkEdge_eq]
    exact .quiet rfl rfl
  | pclk runs =>
    obtain rfl := next_iff.1 h
    exact .quiet rfl rfl
  | reset prst srst =>
    rcases runReset_next.1 h with ⟨-, -, -, rfl⟩ | ⟨-, -, rfl⟩
    · exact .quiet rfl rfl
    · exact .refl _

/-- The readiness an attempt sees does not depend on the moves listed. -/
theorem WireStep.of_popInput (h : WireStep (popInput s) t) : WireStep s t := by
  cases h with
  | quiet hdraws hwire => exact .quiet hdraws hwire
  | retried hbusy hready hdraws hwire => exact .retried hbusy hready hdraws hwire
  | sent hbusy hready hdraws v hwire => exact .sent hbusy hready hdraws v hwire

theorem step_wireStep (h : step s = .next t) : WireStep s t := by
  obtain ⟨-, ⟨-, -, hcycle⟩ | ⟨-, -, rfl⟩ | ⟨e, l, -, ⟨-, -, rfl⟩ | ⟨-, hevent⟩⟩⟩ := step_next.1 h
  · exact runCycle_wireStep hcycle
  · exact .refl _
  · exact .quiet rfl rfl
  · exact (runEvent_wireStep hevent).of_popInput

end

/-! ### Ends of run (R182) -/

section
variable {r : Nat → State} {n m : Nat}

/-- What the environment lists between two steps shows neither in the draws made nor on the wire. -/
theorem IsRun.wireStep (hr : IsRun r) (m : Nat) : WireStep (r m) (r (m + 1)) := by
  obtain ⟨t, hstep, es, ds, hsupplied⟩ := hr m
  exact (step_wireStep hstep).then_quiet (by rw [hsupplied]) (by rw [hsupplied])

theorem IsRun.attemptsSend_iff (hr : IsRun r) :
    attemptsSend (r m) = true ↔ (r (m + 1)).drawCount ≠ (r m).drawCount := by
  obtain ⟨t, hstep, es, ds, hsupplied⟩ := hr m
  rw [attemptsSend_of_step hstep, hsupplied]

/-- An end of run stays one. -/
theorem EndsWellAt.mono (hend : EndsWellAt r n) (hr : IsRun r) (hm : n ≤ m) : EndsWellAt r m := by
  have hidle := hend.stays_idle hr hm
  obtain ⟨hlive, -, hsilent⟩ := hend
  exact ⟨hlive, hidle, fun k hk => hsilent k (hm.trans hk)⟩

theorem EndsWellAt.wire_eq (hend : EndsWellAt r n) (hr : IsRun r) (hm : n ≤ m) : (r m).wire = (r n).wire := by
  induction m, hm using Nat.le_induction with
  | base => rfl
  | succ m hm ih => exact ((hr.wireStep m).of_idle (hend.stays_idle hr hm)).2.trans ih

theorem EndsWellAt.endedWell (hend : EndsWellAt r n) : endedWell (r n) = true := by
  obtain ⟨hlive, hidle, hsilent⟩ := hend
  simp [Machine.endedWell, hlive n, hidle, hsilent n (Nat.le_refl n)]

/-- After an end no send is attempted. -/
theorem EndsWellAt.not_attemptsSend (hend : EndsWellAt r n) (hr : IsRun r) (hm : n ≤ m) :
    attemptsSend (r m) ≠ true :=
  fun hattempt => hr.attemptsSend_iff.1 hattempt ((hr.wireStep m).of_idle (hend.stays_idle hr hm)).1

/-- A run that ends well is fair: from the end on there is no attempt to be answered. -/
theorem EndsWellAt.fairRun (hend : EndsWellAt r n) (hr : IsRun r) : FairRun r := by
  intro hattempts
  obtain ⟨k, hk, hattempt⟩ := hattempts n
  exact absurd hattempt (hend.not_attemptsSend hr hk)

theorem EndsWellAt.not_pclkStops (hend : EndsWellAt r n) (hr : IsRun r) : ¬ PclkStops r := by
  rintro ⟨k, hstops⟩
  exact (hstops _ (Nat.le_max_left k n)).2 (hend.mono hr (Nat.le_max_right k n))

theorem EndsWellAt.not_hangs (hend : EndsWellAt r n) (hr : IsRun r) : ¬ Hangs r := by
  rintro (hunfair | hstops)
  · exact hunfair (hend.fairRun hr)
  · exact hend.not_pclkStops hr hstops

end

/-- Settles O55: an idle block makes no send attempt, so an end lasts; a step makes one attempt at most. -/
theorem hangsAreNoEnds : Obligations.HangsAreNoEnds := by
  refine ⟨fun r n m hr hend hm => ?_, fun r out out' hr => ?_, fun r n hfault => ?_, fun r hr hhangs => ?_,
    fun s t hstep hattempt => ?_⟩
  · exact ⟨hend.mono hr hm, hend.wire_eq hr hm, (hend.mono hr hm).endedWell⟩
  · rintro ⟨n, hend, rfl⟩ ⟨n', hend', rfl⟩
    exact (hend.wire_eq hr (Nat.le_max_left n n')).symm.trans (hend'.wire_eq hr (Nat.le_max_right n n'))
  · rintro ⟨out, k, ⟨hlive, -⟩, -⟩
    exact hfault (hlive n)
  · rintro ⟨out, n, hend, -⟩
    exact hend.not_hangs hr hhangs
  · exact (step_wireStep hstep).wire_length ((attemptsSend_of_step hstep).1 hattempt)

end Sys2Proof.Machine

/-! PROOFS. Fair runs (spec/70_reset_and_hazards.md R177, spec/42_scheduler.md R136): from a point at which the block
waits for the sink, a bounded number of bytes is owed, whole cycles go on making attempts, and fairness lets them send. -/
namespace Sys2Proof.Machine

/-! ### Predicates that every move keeps -/

/-- `t` is `s` but for what the clocks, the sink and the environment's lists move without an operation. -/
def SameBlock (s t : State) : Prop :=
  t = { s with inputs := t.inputs, draws := t.draws, pclkRuns := t.pclkRuns, ack := t.ack, ackSync := t.ackSync,
               reqSync := t.reqSync, taken := t.taken }

/-- What is kept, in states that meet the block's invariant, by operations, by causes raised and by the environment. -/
structure KeptByMoves (P : State → Prop) : Prop where
  exec {s t : State} {i : Instr} : BlockInv s → P s → exec i s = .next t → P t
  raised {s : State} (c : Cause) : P s → P (raiseFault c s)
  unseen {s t : State} : SameBlock s t → P s → P t

section
variable {P : State → Prop} {s t : State}

theorem sameBlock_sclkEdge (canAccept : Bool) (s : State) : SameBlock s (sclkEdge canAccept s) := by
  rw [sclkEdge_eq]
  rfl

theorem sameBlock_of_supplied (h : Supplied s t) : SameBlock s t := by
  obtain ⟨es, ds, rfl⟩ := h
  rfl

theorem KeptByMoves.after_runCode (hP : KeptByMoves P) (hs : BlockInv s) (hp : P s) {c : Code}
    (h : runCode c s = .next t) : P t := by
  rcases runCode_next h with ⟨i, -, hexec⟩ | ⟨-, -, rfl⟩ | rfl
  · exact hP.exec hs hp hexec
  · exact hP.raised .illegal hp
  · exact hp

theorem KeptByMoves.after_firstOfCycle (hP : KeptByMoves P) (hs : BlockInv s) (hp : P s) {slot : Bool}
    (h : firstOfCycle slot s = .next t) : P t := by
  rcases firstOfCycle_next.1 h with ⟨i, -, hexec⟩ | ⟨-, -, hexec⟩ | ⟨-, -, rfl⟩
  · exact hP.exec hs hp hexec
  · exact hP.exec hs hp hexec
  · exact hp

theorem KeptByMoves.after_secondOfCycle (hP : KeptByMoves P) (hs : BlockInv s) (hp : P s) {p : PortSample}
    (h : secondOfCycle p s = .next t) : P t := by
  rcases secondOfCycle_input h with ⟨i, -, hexec⟩ | ⟨c, rfl⟩ | rfl
  · exact hP.exec hs hp hexec
  · exact hP.raised c hp
  · exact hp

theorem KeptByMoves.after_runCycle (hP : KeptByMoves P) (hs : BlockInv s) (hp : P s) {p : PortSample}
    (h : runCycle p s = .next t) : P t := by
  obtain ⟨u, v, hfirst, hsecond, rfl⟩ := runCycle_next.1 h
  have hu : P u := hP.after_firstOfCycle hs hp hfirst
  exact hP.unseen rfl (hP.after_secondOfCycle (hs.after_firstOfCycle hfirst) hu hsecond)

theorem KeptByMoves.after_runEvent (hP : KeptByMoves P) (hs : BlockInv s) (hp : P s) {e : Event}
    (he : e ≠ .reset true true) (h : runEvent e s = .next t) : P t := by
  cases e with
  | op c => exact hP.after_runCode hs hp h
  | cycle p => exact hP.after_runCycle hs hp h
  | sclk canAccept => exact next_iff.1 h ▸ hP.unseen (sameBlock_sclkEdge canAccept s) hp
  | pclk runs => exact next_iff.1 h ▸ hP.unseen rfl hp
  | reset prst srst =>
    rcases runReset_next.1 h with ⟨rfl, rfl, -, -⟩ | ⟨-, -, rfl⟩
    · exact absurd rfl he
    · exact hp

theorem KeptByMoves.after_step (hP : KeptByMoves P) (hs : BlockInv s) (hp : P s)
    (he : s.inputs.head? ≠ some (.reset true true)) (h : step s = .next t) : P t := by
  obtain ⟨-, ⟨-, -, hcycle⟩ | ⟨-, -, rfl⟩ | ⟨e, l, hin, ⟨-, -, rfl⟩ | ⟨-, hevent⟩⟩⟩ := step_next.1 h
  · exact hP.after_runCycle hs hp hcycle
  · exact hp
  · exact hP.unseen rfl hp
  · exact hP.after_runEvent hs.after_popInput (hP.unseen rfl hp)
      (fun hreset => he (by rw [hin, hreset, List.head?_cons])) hevent

end

/-! ### The wire is paid, or the block waits -/

section
variable {s t : State} {i : Instr} {w : List Byte}

/-- R22: a line is opened in IDLE only. -/
theorem exec_line_of_ne_idle (hbusy : s.state ≠ .idle) (h : exec i s = .next t) (hline : t.state = .line) :
    s.state = .line := by
  by_contra hne
  rcases legalTransitions i s t h fun heq => hne (heq.symm.trans hline) with ⟨-, hto, -⟩ | ⟨-, hto, -⟩ |
    ⟨hidle, -⟩ | ⟨-, hto, -⟩ | ⟨-, hto, -⟩ | ⟨-, hto, -⟩
  case inr.inr.inl => exact hbusy hidle
  all_goals cases hline.symm.trans hto

/-- During the capture of a line the block waits in DIRECT mode only. -/
theorem direct_of_waits (hwaits : waitsForSink s = true) (hline : s.state = .line) : s.cfg.mode = .direct := by
  obtain ⟨-, hcmd | hdrain | ⟨hmode, -⟩⟩ := waitsForSink_iff.1 hwaits
  · cases hline.symm.trans hcmd
  · cases hline.symm.trans hdrain
  · exact hmode

/-- A waiting block waits on, or nothing is owed any more: a command and a drain end in IDLE, the one byte of DIRECT mode
is sent (R102, R124, R126, R127). -/
theorem BlockInv.waits_or_paid (hs : BlockInv s) (hwaits : waitsForSink s = true) (h : exec i s = .next t)
    (hf : t.fault = 0#4) : waitsForSink t = true ∨ owed t = [] := by
  have ht := hs.after_exec h
  cases hstate : t.state with
  | idle => exact .inr (owed_of_idle hstate)
  | cmd => exact .inl (waitsForSink_iff.2 ⟨hf, .inl hstate⟩)
  | drain => exact .inl (waitsForSink_iff.2 ⟨hf, .inr (.inl hstate)⟩)
  | line =>
    have hmode : t.cfg.mode = .direct := by
      rw [(exec_effect hs h).cfg]
      exact direct_of_waits hwaits (exec_line_of_ne_idle (waitsForSink_ne_idle hwaits) h hstate)
    by_cases hsent : t.cursor = t.wr
    · rw [ht.owed_of_ne_cmd (by simp [hstate]), unsentBytes_of_sent hsent]
      exact .inr rfl
    · exact .inl (waitsForSink_iff.2 ⟨hf, .inr (.inr ⟨hmode, hstate, ht.cursor_lt_of_ne hsent⟩)⟩)

/-- The block has faulted, or `w` is on the wire, or the block waits and owes the rest of `w`. -/
def PaidOrWaiting (w : List Byte) (s : State) : Prop :=
  s.fault ≠ 0#4 ∨ w <+: s.wire ∨ waitsForSink s = true ∧ w <+: s.wire ++ owed s

theorem PaidOrWaiting.after_exec (hs : BlockInv s) (hp : PaidOrWaiting w s) (h : exec i s = .next t) :
    PaidOrWaiting w t := by
  rcases hp with hfault | hpaid | ⟨hwaits, howed⟩
  · exact .inl fun hzero => hfault (exec_fault_zero h hzero)
  · exact .inr (.inl (hpaid.trans (exec_wireStep h).wire_prefix))
  · by_cases hf : t.fault = 0#4
    · have hmoved : w <+: t.wire ++ owed t := by
        rw [wireIsPaidWhatItIsOwed i s t hs h hf]
        exact howed.trans (List.prefix_append _ _)
      rcases hs.waits_or_paid hwaits h hf with hwaits' | hnone
      · exact .inr (.inr ⟨hwaits', hmoved⟩)
      · rw [hnone, List.append_nil] at hmoved
        exact .inr (.inl hmoved)
    · exact .inl hf

theorem paidOrWaiting_kept (w : List Byte) : KeptByMoves (PaidOrWaiting w) where
  exec := fun hs hp h => hp.after_exec hs h
  raised := fun c _ => .inl c.code_ne_zero
  unseen := fun hsame hp => by
    rw [hsame]
    exact hp

/-! ### Whole cycles make attempts -/

/-- Counts the attempts, and FORMAT (R116) as a half of the next one: no operation lowers it. -/
def progress (s : State) : Nat := 2 * s.drawCount + s.formatted.toNat

theorem BlockInv.not_formatted_of_sent (hs : BlockInv s) (hsent : s.cursor = s.wr) : s.formatted = false := by
  by_contra hformatted
  have hlt := (hs.formatted_pending (by simpa using hformatted)).2
  rw [hsent] at hlt
  exact Nat.lt_irrefl _ hlt

theorem progress_lt_of_attempt (h : t.drawCount = s.drawCount + 1) : progress s < progress t := by
  have hflag := s.formatted.toNat_le
  unfold progress
  omega

theorem OutputEffect.progress_le (hout : OutputEffect s t) : progress s ≤ progress t := by
  cases hout with
  | yielded r => exact Nat.le_refl _
  | stayed => exact Nat.le_refl _
  | retried _ => exact Nat.le_of_lt (progress_lt_of_attempt rfl)
  | formatted v _ _ hraw => simp [progress, hraw, encodeInPlace]
  | sent v _ _ _ => exact Nat.le_of_lt (progress_lt_of_attempt rfl)
  | sentDirect v _ _ _ => exact Nat.le_of_lt (progress_lt_of_attempt rfl)
  | framed v _ _ _ => exact Nat.le_of_lt (progress_lt_of_attempt (by rw [advanceFrame_eq]; rfl))

theorem BlockInv.progress_le (hs : BlockInv s) (h : exec i s = .next t) : progress s ≤ progress t := by
  cases exec_effect hs h with
  | linestart hidle => simp [progress, hs.not_formatted_of_sent (hs.outside_sent (.inl hidle))]
  | output _ _ hout => exact hout.progress_le
  | _ => exact Nat.le_refl _

theorem progress_kept (n : Nat) : KeptByMoves (n ≤ progress ·) where
  exec := fun hs hn h => hn.trans (hs.progress_le h)
  raised := fun _ hn => hn
  unseen := fun hsame hn => by
    rw [hsame]
    exact hn

theorem progress_lt_of_enabledStep (henabled : enabledStep s = some i) (h : exec i s = .next t) :
    progress s < progress t := by
  rcases exec_progress_of_enabledStep henabled h with hdraw | ⟨hraw, hformatted⟩
  · exact progress_lt_of_attempt hdraw
  · have hdraws := (exec_wireStep h).drawCount_le
    simp only [progress, hraw, hformatted, Bool.toNat_false, Bool.toNat_true]
    omega

/-- R130: where the block waits, one of the three internal steps is enabled. -/
theorem BlockInv.enabledStep_of_waits (hs : BlockInv s) (hwaits : waitsForSink s = true) :
    ∃ i, enabledStep s = some i := by
  obtain ⟨hf, hcmd | hdrain | ⟨hmode, hline, hlt⟩⟩ := waitsForSink_iff.1 hwaits
  · exact ⟨_, enabledStep_eq_some_iff.2 ⟨hf, .inl ⟨rfl, hcmd⟩⟩⟩
  · cases hmode : s.cfg.mode with
    | buffered => exact ⟨_, enabledStep_eq_some_iff.2 ⟨hf, .inr (.inl ⟨rfl, hdrain, hmode⟩)⟩⟩
    | direct =>
      have hlt := (hs.drain_full hdrain).2
      exact ⟨_, enabledStep_eq_some_iff.2 ⟨hf, .inr (.inr ⟨rfl, hmode, .inr hdrain, hlt⟩)⟩⟩
  · exact ⟨_, enabledStep_eq_some_iff.2 ⟨hf, .inr (.inr ⟨rfl, hmode, .inl hline, hlt⟩)⟩⟩

theorem BlockInv.runCycle_progress_lt (hs : BlockInv s) (hwaits : waitsForSink s = true) {p : PortSample}
    (h : runCycle p s = .next t) : progress s < progress t := by
  obtain ⟨u, v, hfirst, hsecond, rfl⟩ := runCycle_next.1 h
  obtain ⟨i, henabled⟩ := hs.enabledStep_of_waits hwaits
  have hu : progress s < progress u :=
    progress_lt_of_enabledStep henabled (firstOfCycle_of_enabledStep henabled p.slot ▸ hfirst)
  have hv : progress s < progress v :=
    (progress_kept _).after_secondOfCycle (hs.after_firstOfCycle hfirst) hu hsecond
  exact hv

/-- A whole cycle is a cycle of the block, taken off the list or quiet. -/
theorem runCycle_of_isWholeCycle (hwhole : isWholeCycle s = true) (h : step s = .next t) :
    ∃ p l, runCycle p { s with inputs := l } = .next t := by
  obtain ⟨hruns, hmove⟩ := Bool.and_eq_true_iff.1 hwhole
  obtain ⟨-, ⟨-, -, hcycle⟩ | ⟨-, hstop, -⟩ | ⟨e, l, hin, ⟨-, hstop, -⟩ | ⟨-, hevent⟩⟩⟩ := step_next.1 h
  · exact ⟨_, s.inputs, hcycle⟩
  · cases hruns.symm.trans hstop
  · cases hruns.symm.trans hstop
  · rw [hin] at hmove
    cases e with
    | cycle p => exact ⟨p, _, hevent⟩
    | op | sclk | pclk | reset => cases hmove

theorem BlockInv.step_progress_lt (hs : BlockInv s) (hwaits : waitsForSink s = true) (hwhole : isWholeCycle s = true)
    (h : step s = .next t) : progress s < progress t := by
  obtain ⟨p, l, hcycle⟩ := runCycle_of_isWholeCycle hwhole h
  have hs' : BlockInv { s with inputs := l } := { hs with }
  exact hs'.runCycle_progress_lt hwaits hcycle

end

/-! ### Along a run -/

/-- What never falls and rises again and again passes every bound. -/
theorem exists_le_of_rises {f : Nat → Nat} {n : Nat} (hmono : ∀ m ≥ n, f m ≤ f (m + 1))
    (hrises : ∀ m ≥ n, ∃ k ≥ m, f k < f (k + 1)) (bound : Nat) : ∃ k ≥ n, bound ≤ f k := by
  induction bound with
  | zero => exact ⟨n, Nat.le_refl n, Nat.zero_le _⟩
  | succ bound ih =>
    obtain ⟨m, hm, hbound⟩ := ih
    obtain ⟨k, hk, hlt⟩ := hrises m hm
    have hmk : f m ≤ f k := Nat.le_induction (Nat.le_refl _) (fun j hj => (·.trans (hmono j (hm.trans hj)))) k hk
    exact ⟨k + 1, by omega, by omega⟩

section
variable {r : Nat → State} {n m : Nat} {w : List Byte} {P : State → Prop}

theorem BlockInv.along_run (hs : BlockInv (r n)) (hr : IsRun r) (hm : n ≤ m) : BlockInv (r m) := by
  induction m, hm using Nat.le_induction with
  | base => exact hs
  | succ m hm ih =>
    obtain ⟨t, hstep, es, ds, hsupplied⟩ := hr m
    exact hsupplied ▸ { ih.after_step hstep with }

theorem KeptByMoves.after_run_step (hP : KeptByMoves P) (hr : IsRun r) (hs : BlockInv (r m)) (hp : P (r m))
    (he : (r m).inputs.head? ≠ some (.reset true true)) : P (r (m + 1)) := by
  obtain ⟨t, hstep, hsupplied⟩ := hr m
  exact hP.unseen (sameBlock_of_supplied hsupplied) (hP.after_step hs hp he hstep)

theorem KeptByMoves.along_run (hP : KeptByMoves P) (hr : IsRun r) (hs : BlockInv (r n)) (hp : P (r n))
    (hreset : NoResetFrom r n) (hm : n ≤ m) : P (r m) := by
  induction m, hm using Nat.le_induction with
  | base => exact hp
  | succ m hm ih => exact hP.after_run_step hr (hs.along_run hr hm) ih (hreset m hm)

/-- A run in which no attempt is made from some point on makes no draw from there on. -/
theorem IsRun.drawCount_eq (hr : IsRun r) (hnone : ∀ k ≥ n, attemptsSend (r k) ≠ true) (hm : n ≤ m) :
    (r m).drawCount = (r n).drawCount := by
  induction m, hm using Nat.le_induction with
  | base => rfl
  | succ m hm ih => exact (not_not.1 fun hne => hnone m hm (hr.attemptsSend_iff.2 hne)).trans ih

/-- While the block waits, each whole cycle is progress. -/
theorem IsRun.progress_rises (hr : IsRun r) (hs : BlockInv (r m)) (hwaits : waitsForSink (r m) = true)
    (hwhole : isWholeCycle (r m) = true) : progress (r m) < progress (r (m + 1)) := by
  obtain ⟨t, hstep, hsupplied⟩ := hr m
  exact (progress_kept _).unseen (sameBlock_of_supplied hsupplied) (hs.step_progress_lt hwaits hwhole hstep)

/-- A block that waits for ever, in a run in which whole cycles go on, attempts to send again and again. -/
theorem IsRun.attempts_of_waits (hr : IsRun r) (hcycles : ∀ m, ∃ k ≥ m, isWholeCycle (r k) = true)
    (hs : BlockInv (r n)) (hreset : NoResetFrom r n) (hwaits : ∀ m ≥ n, waitsForSink (r m) = true) (m : Nat) :
    ∃ k ≥ m, attemptsSend (r k) = true := by
  by_contra! hnone
  have hstart : n ≤ max n m := Nat.le_max_left n m
  obtain ⟨k, hk, hbound⟩ := exists_le_of_rises (f := fun j => progress (r j)) (n := max n m)
    (fun j hj => (progress_kept _).after_run_step hr (hs.along_run hr (hstart.trans hj)) (Nat.le_refl _)
      (hreset j (hstart.trans hj)))
    (fun j hj => by
      obtain ⟨k, hk, hwhole⟩ := hcycles j
      have hnk : n ≤ k := hstart.trans (hj.trans hk)
      exact ⟨k, hk, hr.progress_rises (hs.along_run hr hnk) (hwaits k hnk) hwhole⟩)
    (2 * (r (max n m)).drawCount + 2)
  have hdraws := hr.drawCount_eq (fun j hj => hnone j ((Nat.le_max_right n m).trans hj)) hk
  have hflag := (r k).formatted.toNat_le
  simp only [progress, hdraws] at hbound
  omega

/-- Attempts that find the sink ready again and again put more and more bytes on the wire. -/
theorem IsRun.wire_unbounded (hr : IsRun r) (hsends : ∀ m, ∃ k ≥ m, attemptsSend (r k) = true ∧ ready (r k) = true)
    (n bound : Nat) : ∃ k ≥ n, bound ≤ (r k).wire.length := by
  refine exists_le_of_rises (f := fun k => (r k).wire.length) (fun m _ => (hr.wireStep m).wire_prefix.length_le)
    (fun m _ => ?_) bound
  obtain ⟨k, hk, hattempt, hready⟩ := hsends m
  have hlength := (hr.wireStep k).wire_length (hr.attemptsSend_iff.1 hattempt)
  exact ⟨k, hk, by simp [hlength, hready]⟩

end

/-- Settles O54: otherwise the block would wait for ever, and a fair sink would take more bytes than are owed. -/
theorem fairRunsEndEveryWait : Obligations.FairRunsEndEveryWait := by
  intro r n hr hfair hcycles hs hwaits hreset
  by_contra! hnever
  have hstuck {m : Nat} (hm : n ≤ m) : waitsForSink (r m) = true ∧
      (r m).wire.length < ((r n).wire ++ owed (r n)).length := by
    obtain ⟨hf, hunpaid⟩ := hnever m hm
    have hunpaid : ¬ (r n).wire ++ owed (r n) <+: (r m).wire := fun ⟨w, hw⟩ => hunpaid w hw.symm
    have hpaid := (paidOrWaiting_kept _).along_run hr hs (.inr (.inr ⟨hwaits, List.prefix_refl _⟩)) hreset hm
    obtain ⟨hwaits', howed⟩ := (hpaid.resolve_left (not_not.2 hf)).resolve_left hunpaid
    refine ⟨hwaits', Nat.lt_of_not_le fun hle => hunpaid ?_⟩
    exact List.prefix_of_prefix_length_le howed (List.prefix_append _ _) hle
  have hattempts := hr.attempts_of_waits hcycles hs hreset fun m hm => (hstuck hm).1
  obtain ⟨k, hk, hlength⟩ := hr.wire_unbounded (hfair hattempts) n ((r n).wire ++ owed (r n)).length
  exact Nat.not_le_of_lt (hstuck hk).2 hlength

end Sys2Proof.Machine
